-- ==== Sys2Proof/Word.lean ====
section
/-! DEFINITION. The words and index types the TC-48's manual speaks of: bytes, signed sample values,
times, counters, and the numbered things (lanes, pairs, points, groups, slots, levels). -/

namespace Sys2Proof

/-- One character of a lane or of the trunk carries one byte (chapter 11). -/
abbrev Byte := BitVec 8
/-- A sample value, a window bound or a reported value: signed 16 bits (00_scope, Conventions). -/
abbrev Value := BitVec 16
/-- A CRC-16 check code (R10, R199). -/
abbrev CheckCode := BitVec 16
/-- Device time and every stored time: 32 bits of milliseconds, wrapping (00_scope, Conventions). -/
abbrev Time := BitVec 32
/-- A counter whose range is not stated with it: 32 bits, wrapping (00_scope, Conventions). -/
abbrev Counter := BitVec 32
/-- The map generation: 16 bits, wrapping (R18). -/
abbrev Generation := BitVec 16
/-- Lanes 0 to 7. -/
abbrev LaneId := Fin 8
/-- Pairs 0 to 3; pair k is lanes 2k and 2k+1. -/
abbrev PairId := Fin 4
/-- Point ids 0 to 255. -/
abbrev PointId := Fin 256
/-- Groups 0 to 15. -/
abbrev GroupId := Fin 16
/-- Slots 0 to 31. -/
abbrev SlotId := Fin 32
/-- Levels 0 (most urgent) to 3. -/
abbrev Level := Fin 4
/-- A node number as a frame header carries it, five bits: 0 to 30, and 31 for broadcast. -/
abbrev NodeAddr := Fin 32
/-- A point index within a node, 0 to 15. -/
abbrev PointIndex := Fin 16
/-- The 6-bit number a node places in each frame it sends. -/
abbrev Sequence := BitVec 6
/-- The tag of a request, 0 to 255. -/
abbrev Tag := BitVec 8
/-- The number of an in-service record and its messages, 0 to 255. -/
abbrev AlertNumber := BitVec 8

end Sys2Proof
end

