-- ==== Sys2Proof/Syntax.lean ====
section
/-! DEFINITION. The commands the block takes: one constructor of `Instr` for each row of
spec/opcode_table.json, in the table's order, with the operands an outside event brings with it.
A management request's operands arrive in the payload of its REQUEST message, so the rows that stand
for a request being TAKEN (R187) carry none: they act on the oldest request of the inbound queue. -/

namespace Sys2Proof

/-- How a cold reset is given (R204). -/
inductive ResetCause where
  | powerOn
  | resetLine
  deriving DecidableEq, Repr

/-- The three ways a frame in progress ends (R127). -/
inductive FrameEndCause where
  | idleGap
  | framingFault
  | overLength
  deriving DecidableEq, Repr

/-- The ways an inbound message in progress ends (R152): its last announced character is taken, a
character arrives with a framing fault, or sixteen character times pass with no character. -/
inductive MessageEndCause where
  | lastCharacter
  | framingFault
  | idleGap
  deriving DecidableEq, Repr

/-- The commands of the TC-48, one for each row of spec/opcode_table.json. -/
inductive Instr where
  /-- Power-on, or RESETN held low (R204). -/
  | coldReset (cause : ResetCause)
  /-- The part leaves cold reset with the code on its rate straps RATE2, RATE1, RATE0 (R204). -/
  | resetRelease (straps : Fin 8)
  /-- A lane's frame in progress ends; `chars` are the characters that arrived since the start
  delimiter (R127, R128). -/
  | frameEnd (lane : LaneId) (cause : FrameEndCause) (chars : List Byte)
  /-- A lane's holdoff timer reaches its expiry (R132). -/
  | holdoffExpiry (lane : LaneId)
  /-- The Classifier takes the next frame (R21, R22). -/
  | frameTaken
  /-- A point's stale timer reaches its expiry (R46). -/
  | staleExpiry (point : PointId)
  /-- A group's period timer reaches its expiry (R114). -/
  | periodTimerExpiry (group : GroupId)
  /-- COPY_ACTIVE copies one entry (R98). -/
  | copyActiveEntry
  /-- The check pass of COMMIT examines one entry (R101). -/
  | checkPassEntry
  /-- The completion of a COMMIT is taken between two frames (R102, R103). -/
  | commitCompletion
  /-- The Alert Delivery Unit makes a selection and its capture (R69, R71). -/
  | capture
  /-- The acknowledgement timer of the record with this number reaches its expiry (R76, R77, R79). -/
  | acknowledgementTimerExpiry (number : AlertNumber)
  /-- A free Alert queue entry is given to an owed repeat (R78). -/
  | owedRepeatPlacement
  /-- The idle Trunk Transmitter starts a message (R177). -/
  | transmissionStart
  /-- The last character of the message in transmission has been sent (R179). -/
  | transmissionCompletion
  /-- An inbound message ends and is judged; `chars` are the characters that arrived since the start
  delimiter (R152, R153). -/
  | messageEnd (cause : MessageEndCause) (chars : List Byte)
  /-- A valid ATTACH ends (R156). -/
  | attach (payload : List Byte)
  /-- A valid REQUEST ends (R154, R155). -/
  | request (payload : List Byte)
  /-- A valid KEEPALIVE ends (R154). -/
  | keepalive (payload : List Byte)
  /-- The silence timer reaches its expiry (R159). -/
  | silenceTimerExpiry
  /-- The wake timer reaches its expiry (R168). -/
  | wakeTimerExpiry
  /-- The idle gap after a pair's COMMAND frame ends (R143). -/
  | gapEnd (pair : PairId)
  /-- A pair's Relay Transmitter starts its oldest queued frame (R143). -/
  | relayTransmissionStart (pair : PairId)
  /-- The last character of a pair's COMMAND frame has been sent (R143). -/
  | relayTransmissionCompletion (pair : PairId)
  /-- A request whose payload is shorter than the header is taken (R185). -/
  | shortRequest
  /-- A request whose operation code names no operation is taken (R192). -/
  | badOp
  /-- A READ_POINT request is taken (R92). -/
  | readPoint
  /-- A WRITE_POINT request is taken (R5, R6). -/
  | writePoint
  /-- A READ_GROUP request is taken (R93). -/
  | readGroup
  /-- A WRITE_GROUP request is taken (R8). -/
  | writeGroup
  /-- A CLEAR_SHADOW request is taken (R94). -/
  | clearShadow
  /-- A COPY_ACTIVE request is taken (R98). -/
  | copyActive
  /-- A COMMIT request is taken (R100). -/
  | commit
  /-- A READ_CONDITION request is taken (R48). -/
  | readCondition
  /-- A SET_SLOT request is taken (R60). -/
  | setSlot
  /-- A READ_SLOT request is taken (R63). -/
  | readSlot
  /-- A CLEAR_SLOT request is taken (R61). -/
  | clearSlot
  /-- A SET_ROUTE request is taken (R62). -/
  | setRoute
  /-- An ALERT_DONE request is taken (R81). -/
  | alertDone
  /-- A READ_STACK request is taken (R88). -/
  | readStack
  /-- A SET_LANE request is taken (R122, R123). -/
  | setLane
  /-- A READ_LANE request is taken (R135). -/
  | readLane
  /-- A CLEAR_LANE_COUNTERS request is taken (R134). -/
  | clearLaneCounters
  /-- A SET_PAIR request is taken (R125). -/
  | setPair
  /-- A RELAY request is taken (R141). -/
  | relay
  /-- A TRIGGER_GROUP request is taken (R117). -/
  | triggerGroup
  /-- A SET_TRUNK request is taken (R162). -/
  | setTrunk
  /-- An ENTER_DORMANT request is taken (R163). -/
  | enterDormant
  /-- A READ_DEVICE request is taken (R193). -/
  | readDevice
  /-- A RESTART request is taken (R195). -/
  | restart
  /-- A start delimiter begins a frame on a lane (R126). -/
  | laneFrameBegin (lane : LaneId)
  /-- A start delimiter begins an inbound trunk message (R152). -/
  | trunkMessageBegin
  deriving DecidableEq, Repr

end Sys2Proof
end

