-- ==== Sys2Proof/Config.lean ====
section
/-! DEFINITION. The figures the manual fixes for the part: capacities, delimiters, codes, defaults.
The manual leaves no value of the part open to an implementation; the two opaque constants stand for the
line time that the model leaves out at a transmission cut short (notes/assumptions/25.md). -/

namespace Sys2Proof.Config

/-- Messages the Alert queue holds (R172). -/
def alertCapacity : Nat := 8
/-- Entries of the Reply queue, messages and reservations together (R172, R174). -/
def replyCapacity : Nat := 4
/-- Messages the Data queue holds (R172, R173). -/
def dataCapacity : Nat := 32
/-- REQUEST messages the inbound queue holds (R155). -/
def inboundCapacity : Nat := 4
/-- Frames a receive FIFO holds (R129). -/
def fifoCapacity : Nat := 4
/-- Frames a relay queue holds (R140, R141). -/
def relayCapacity : Nat := 4
/-- Entries of the reply cache (R188). -/
def cacheCapacity : Nat := 8
/-- Entries of a slot's cause set (R50). -/
def causeCapacity : Nat := 8
/-- Records of the in-service stack (R67). -/
def stackCapacity : Nat := 4
/-- Entries of a bank in copy order and check order: 256 points, then 16 groups (R98, R101). -/
def bankEntries : Nat := 272
/-- The largest payload length an inbound message may announce (R152, R157). -/
def maxInboundPayload : Nat := 240

/-- The start delimiter of a lane frame (R200). -/
def laneDelimiter : Byte := 0xC3#8
/-- The start delimiter of a trunk message (R201). -/
def trunkDelimiter : Byte := 0xD4#8
/-- Characters after the delimiter of the shortest valid lane frame, a SAMPLE (R128, R200). -/
def shortestFrame : Nat := 8
/-- Characters after the delimiter of the longest valid lane frame, a BURST of four points (R127, R200). -/
def longestFrame : Nat := 17

/-- Family code of the identity: Pazigo (R198). -/
def familyCode : Nat := 0x0A
/-- Part code of the identity: TC-48 (R198). -/
def partCode : Nat := 0x30
/-- Silicon revision code of the part the manual describes (R198). -/
def revisionCode : Nat := 0x01

/-- The generator polynomial x^16 + x^15 + x^2 + 1 without its leading term (R199). -/
def crcPolynomial : BitVec 16 := 0x8005#16
/-- The CRC register's starting value (R199). -/
def crcInitial : BitVec 16 := 0xFFFF#16

/-- The trunk bit rate that a code of the straps RATE2, RATE1, RATE0 fixes, in bit/s (R204). -/
def trunkRate (code : Fin 8) : Nat :=
  match code with
  | 0 => 1200
  | 1 => 2400
  | 2 => 4800
  | 3 => 9600
  | 4 => 19200
  | 5 => 38400
  | 6 => 57600
  | 7 => 115200

/-- The milliseconds that ten bit times at this rate last, rounded up: the time of one character, on the trunk
and on a lane (R127, R176). No rate of the part divides 10000. -/
def characterMilliseconds (bitsPerSecond : Nat) : Nat := 10000 / bitsPerSecond + 1

/-- FREE VALUE, by the cut's number and its line: which character of a transmission was in progress when it
was cut short (notes/assumptions/25.md). -/
opaque cutPosition (number line : Nat) : Nat
/-- FREE VALUE, by the cut's number and its line: how many milliseconds are counted until the character in
progress is finished (notes/assumptions/25.md). -/
opaque cutMilliseconds (number line : Nat) : Nat

/-- Milliseconds in one unit of 100 ms (00_scope, Conventions). -/
def tenth : Nat := 100
/-- Milliseconds in one second. -/
def second : Nat := 1000

end Sys2Proof.Config
end

