-- ==== Sys2Proof/Machine/Types.lean ====
section
/-! DEFINITION. The records the TC-48 keeps and the messages and frames it handles, by their named
fields, as the chapters list them. -/

namespace Sys2Proof.Machine

/-! ## Timers -/

/-- A running timer: the device time of its start and its interval in milliseconds. Its expiry time is
the sum, taken modulo 2^32 (00_scope, Conventions). A stopped timer is `none`. -/
structure Timer where
  start : Time
  interval : Time
  deriving DecidableEq, Repr

/-! ## The Point Map (chapter 1) -/

/-- The two physical banks (R1). -/
inductive BankName where
  | a
  | b
  deriving DecidableEq, Repr

/-- The two roles a bank may have (R1). -/
inductive Role where
  | active
  | shadow
  deriving DecidableEq, Repr

/-- Forwarding policies (R3, R42). -/
inductive Policy where
  | absorb
  | always
  | deadband
  | transition
  deriving DecidableEq, Repr

/-- Whether the window is the normal or the abnormal region (R3, R38). -/
inductive Sense where
  | insideNormal
  | outsideNormal
  deriving DecidableEq, Repr

/-- The subset of {ABNORMAL, NORMAL_RETURN, STALE, FAULT} that raises a cause (R3, R41). -/
structure RaiseOn where
  abnormal : Bool
  normalReturn : Bool
  stale : Bool
  fault : Bool
  deriving DecidableEq, Repr

/-- The triple under which a point entry matches arriving samples (1.4). -/
structure Key where
  lane : LaneId
  node : NodeAddr
  index : PointIndex
  deriving DecidableEq, Repr

/-- A point entry: the fourteen fields of R3. `slot = none` is NONE; `staleLimit` is in units of
100 ms, 0 for off. -/
structure PointEntry where
  valid : Bool
  lane : LaneId
  node : NodeAddr
  index : PointIndex
  policy : Policy
  deadband : Nat
  sense : Sense
  lower : Value
  upper : Value
  hysteresis : Nat
  qualify : Nat
  staleLimit : Nat
  raiseOn : RaiseOn
  slot : Option SlotId
  deriving DecidableEq, Repr

/-- The key of a point entry (1.4). -/
def PointEntry.key (e : PointEntry) : Key := ⟨e.lane, e.node, e.index⟩

/-- The invalid-entry contents (R4). -/
def PointEntry.invalid : PointEntry :=
  { valid := false, lane := 0, node := 0, index := 0, policy := .absorb, deadband := 0,
    sense := .insideNormal, lower := 0#16, upper := 0#16, hysteresis := 0, qualify := 1,
    staleLimit := 0, raiseOn := ⟨false, false, false, false⟩, slot := none }

/-- What starts a group's report (R7). -/
inductive Trigger where
  | off
  | periodic
  | onSample
  | requestOnly
  deriving DecidableEq, Repr

/-- A group entry: the five fields of R7; `period` is in units of 100 ms. -/
structure GroupEntry where
  trigger : Trigger
  start : PointId
  length : Nat
  period : Nat
  triggerMember : Nat
  deriving DecidableEq, Repr

/-- The group-off contents (R7). -/
def GroupEntry.groupOff : GroupEntry :=
  { trigger := .off, start := 0, length := 1, period := 10, triggerMember := 0 }

/-- An entry as a bank stores it: its contents, its check code (R10) and its integrity mark, set when
the entry is marked faulted (R15). -/
structure Stored (α : Type) where
  entry : α
  code : CheckCode
  mark : Bool
  deriving DecidableEq, Repr

/-- One complete copy of the map (R1). -/
structure Bank where
  points : Vector (Stored PointEntry) 256
  groups : Vector (Stored GroupEntry) 16
  deriving DecidableEq, Repr

/-- A row of the key index: a key and the point id it resolves to (1.4, R9). -/
structure KeyRow where
  key : Key
  point : PointId
  deriving DecidableEq, Repr

/-- The Map Store: the two banks, the active-bank designation, the active bank's key index, the map
generation, and the key index a check pass has built so far (R1, R9, R18, R101). -/
structure MapStore where
  bankA : Bank
  bankB : Bank
  active : BankName
  keyIndex : List KeyRow
  generation : Generation
  partialIndex : List KeyRow
  deriving DecidableEq, Repr

/-! ## The Condition Table (chapter 2) -/

/-- The judged state of a point (R24). -/
inductive Condition where
  | unknown
  | normal
  | abnormal
  | stale
  | faulted
  deriving DecidableEq, Repr

/-- The runtime record of one point id (R24). An absent field is `none`. -/
structure RuntimeRecord where
  condition : Condition
  vote : Nat
  lastValue : Option Value
  lastSequence : Option Sequence
  lastForwarded : Option Value
  lastSampleTime : Option Time
  timer : Option Timer
  samples : Counter
  gaps : Counter
  duplicates : Counter
  deriving DecidableEq, Repr

/-- The cleared record (R25). -/
def RuntimeRecord.cleared : RuntimeRecord :=
  { condition := .unknown, vote := 0, lastValue := none, lastSequence := none,
    lastForwarded := none, lastSampleTime := none, timer := none, samples := 0#32, gaps := 0#32,
    duplicates := 0#32 }

/-! ## Slots and causes (chapter 3) -/

/-- The twelve device causes (R56). -/
inductive DeviceCause where
  | laneSuspended (lane : LaneId)
  | dataLoss
  | alertLapse
  | mapIntegrity
  | restarted
  deriving DecidableEq, Repr

/-- A cause entry (R50). -/
inductive Cause where
  | point (id : PointId)
  | device (cause : DeviceCause)
  deriving DecidableEq, Repr

/-- Whether a slot is held back from delivery (R49). -/
inductive Mask where
  | masked
  | unmasked
  deriving DecidableEq, Repr

/-- A slot record (R49); pending is derived from the cause set and the overflow (R50). -/
structure Slot where
  level : Level
  mask : Mask
  causes : List Cause
  overflow : Bool
  deriving DecidableEq, Repr

/-! ## The in-service stack (chapter 4) -/

/-- The states of an in-service record (R74). -/
inductive RecordState where
  | queued
  | sending
  | awaiting
  | repeatOwed
  deriving DecidableEq, Repr

/-- An in-service record (R66). -/
structure InService where
  number : AlertNumber
  slot : SlotId
  level : Level
  causes : List Cause
  overflow : Bool
  captureTime : Time
  repeatCount : Nat
  state : RecordState
  timer : Option Timer
  deriving DecidableEq, Repr

/-! ## Field lanes (chapter 7) -/

/-- The five lane bit rates (R121). -/
inductive BitRate where
  | r9600
  | r19200
  | r57600
  | r115200
  | r460800
  deriving DecidableEq, Repr

/-- The fate of samples that find no point (R121, R32). -/
inductive UnmatchedOption where
  | discard
  | forwardUnmatched
  deriving DecidableEq, Repr

/-- A lane's settings but its enable (R121): a lane's enable is ON exactly when its state is not
DISABLED (R123, R126), and is kept there alone. `holdoff` is in units of 100 ms. -/
structure LaneSettings where
  bitRate : BitRate
  threshold : Nat
  holdoff : Nat
  unmatched : UnmatchedOption
  deriving DecidableEq, Repr

/-- The default settings (R121). -/
def LaneSettings.default : LaneSettings :=
  { bitRate := .r19200, threshold := 4, holdoff := 10, unmatched := .discard }

/-- The states of a lane receiver (R126). -/
inductive LaneState where
  | disabled
  | hunt
  | receiving
  | suspended
  deriving DecidableEq, Repr

/-- One reading of a SAMPLE or BURST frame: its value and its quality flags (R200). -/
structure Reading where
  value : Value
  fault : Bool
  held : Bool
  deriving DecidableEq, Repr

/-- An accepted frame in a receive FIFO: node, sequence, point index of the first reading, the readings
in ascending point index (one for a SAMPLE), and the arrival time (R22, R129, R200). -/
structure Frame where
  node : NodeAddr
  sequence : Sequence
  startIndex : PointIndex
  readings : List Reading
  arrival : Time
  deriving DecidableEq, Repr

/-- The eight counters of a lane (R133). -/
structure LaneCounters where
  framesEnded : Counter
  accepted : Counter
  lineErrors : Counter
  checkErrors : Counter
  formatErrors : Counter
  overruns : Counter
  suspendedDrops : Counter
  unmatched : Counter
  deriving DecidableEq, Repr

/-- All eight counters at 0. -/
def LaneCounters.zero : LaneCounters :=
  ⟨0#32, 0#32, 0#32, 0#32, 0#32, 0#32, 0#32, 0#32⟩

/-- A lane record (R120). `frame` is the frame in progress: the characters since its start delimiter. -/
structure Lane where
  settings : LaneSettings
  state : LaneState
  frame : Option (List Byte)
  holdoffElapsed : Bool
  errors : Nat
  holdoffTimer : Option Timer
  fifo : List Frame
  counters : LaneCounters
  deriving DecidableEq, Repr

/-- The mode of a pair (R124). -/
inductive PairMode where
  | split
  | joined
  deriving DecidableEq, Repr

/-- The confirmation state of a relay frame with confirm set (7.7). -/
inductive Confirmation where
  | reserved
  | cancelled
  deriving DecidableEq, Repr

/-- A relay frame (7.7). `confirm = none` is confirm NO, which has no confirmation state. -/
structure RelayFrame where
  tag : Tag
  node : NodeAddr
  payload : List Byte
  confirm : Option Confirmation
  deriving DecidableEq, Repr

/-- The states of a Relay Transmitter (R140). -/
inductive RelayState where
  | idle
  | gap
  | sending
  deriving DecidableEq, Repr

/-- A Relay Transmitter (R140). -/
structure RelayTransmitter where
  state : RelayState
  sending : Option RelayFrame
  queue : List RelayFrame
  deriving DecidableEq, Repr

/-- A pair of lanes: its mode and the Relay Transmitter of its even lane (R124, R140). -/
structure Pair where
  mode : PairMode
  relay : RelayTransmitter
  deriving DecidableEq, Repr

/-- The outcome of a relay frame (R143, R144). -/
inductive RelayOutcome where
  | sent
  | discarded
  | abandoned
  deriving DecidableEq, Repr

/-! ## Messages sent on the trunk (chapters 4, 6, 8, 9, 10) -/

/-- The fifteen statuses of a reply (R192). -/
inductive Status where
  | ok
  | badOp
  | badIndex
  | badValue
  | busy
  | genMismatch
  | dupKey
  | integrity
  | laneActive
  | laneMode
  | laneDisabled
  | queueFull
  | notTop
  | unknownAlert
  | alertsOutstanding
  deriving DecidableEq, Repr

/-- The twenty-four operations, in the order of the table of R192. -/
inductive Operation where
  | readPoint
  | writePoint
  | readGroup
  | writeGroup
  | clearShadow
  | copyActive
  | commit
  | readCondition
  | setSlot
  | readSlot
  | clearSlot
  | setRoute
  | alertDone
  | readStack
  | setLane
  | readLane
  | clearLaneCounters
  | setPair
  | relay
  | triggerGroup
  | setTrunk
  | enterDormant
  | readDevice
  | restart
  deriving DecidableEq, Repr

/-- A REPLY: the tag and operation code of the request it answers, a status, and the results encoded
by R198 (R186, R201). -/
structure Reply where
  tag : Tag
  op : Byte
  status : Status
  results : List Byte
  deriving DecidableEq, Repr

/-- The five trunk parameters (R162): seconds for the silence timeout and the wake interval, units of
100 ms for the acknowledgement timeout. -/
structure TrunkParams where
  silenceTimeout : Nat
  wakeInterval : Nat
  wakeLimit : Nat
  ackTimeout : Nat
  retryLimit : Nat
  deriving DecidableEq, Repr

/-- The default trunk parameters (R162). -/
def TrunkParams.default : TrunkParams :=
  { silenceTimeout := 10, wakeInterval := 5, wakeLimit := 6, ackTimeout := 20, retryLimit := 3 }

/-- The last reset the controller has not been told of (R158). -/
inductive RestartCause where
  | powerOn
  | resetLine
  | restartRequest
  | none
  deriving DecidableEq, Repr

/-- An ATTACH_REPLY; the identity and the capacities it carries are fixed (R157). -/
structure AttachReplyMessage where
  generation : Generation
  bank : BankName
  cause : RestartCause
  time : Time
  params : TrunkParams
  deriving DecidableEq, Repr

/-- A RELAY_DONE (R145). -/
structure RelayDoneMessage where
  tag : Tag
  lane : LaneId
  outcome : RelayOutcome
  deriving DecidableEq, Repr

/-- A DATA message (R43). -/
structure DataMessage where
  point : PointId
  condition : Condition
  transition : Bool
  reading : Reading
  sequence : Sequence
  time : Time
  deriving DecidableEq, Repr

/-- An UNMATCHED message (R33). -/
structure UnmatchedMessage where
  key : Key
  sequence : Sequence
  reading : Reading
  time : Time
  deriving DecidableEq, Repr

/-- What started a report (6.1). -/
inductive Origin where
  | periodic
  | onSample
  | request
  deriving DecidableEq, Repr

/-- A member entry of a REPORT; condition `none` is ABSENT (R112). -/
structure ReportMember where
  point : PointId
  condition : Option Condition
  lastValue : Option Value
  age : Option Nat
  deriving DecidableEq, Repr

/-- A REPORT (R111); the tag is present for origin REQUEST alone. -/
structure ReportMessage where
  group : GroupId
  origin : Origin
  tag : Option Tag
  generation : Generation
  time : Time
  members : List ReportMember
  deriving DecidableEq, Repr

/-- An ALERT (R72). -/
structure AlertMessage where
  number : AlertNumber
  slot : SlotId
  level : Level
  repeatCount : Nat
  captureTime : Time
  overflow : Bool
  causes : List Cause
  deriving DecidableEq, Repr

/-- A LAPSE (R79). -/
structure LapseMessage where
  number : AlertNumber
  slot : SlotId
  level : Level
  repeatCount : Nat
  time : Time
  deriving DecidableEq, Repr

/-- A WAKE (R167). -/
structure WakeMessage where
  number : Nat
  level : Nat
  time : Time
  deriving DecidableEq, Repr

/-- The messages the part sends (R172, R201). -/
inductive Message where
  | attachReply (m : AttachReplyMessage)
  | reply (m : Reply)
  | relayDone (m : RelayDoneMessage)
  | data (m : DataMessage)
  | unmatched (m : UnmatchedMessage)
  | report (m : ReportMessage)
  | alert (m : AlertMessage)
  | lapse (m : LapseMessage)
  | wake (m : WakeMessage)
  deriving DecidableEq, Repr

/-- The class of a message (R172, R176). -/
inductive TrunkClass where
  | alert
  | reply
  | data
  | wake
  deriving DecidableEq, Repr

/-! ## The Trunk Link Controller (chapter 8) -/

/-- The state of the session (R149). -/
inductive LinkState where
  | offline
  | active
  | dormant
  | waking
  deriving DecidableEq, Repr

/-- The five inbound counters (R149). -/
structure InboundCounters where
  checkErrors : Counter
  unknownKinds : Counter
  oversize : Counter
  overruns : Counter
  offlineDiscards : Counter
  deriving DecidableEq, Repr

/-- All five inbound counters at 0. -/
def InboundCounters.zero : InboundCounters := ⟨0#32, 0#32, 0#32, 0#32, 0#32⟩

/-- The Trunk Link Controller (R149). `receiver = none` is HUNT, otherwise the characters of the message
in progress since its start delimiter; `inbound` holds the payloads of the waiting REQUEST messages,
oldest first. -/
structure LinkControl where
  state : LinkState
  silenceTimer : Option Timer
  wakeTimer : Option Timer
  wakeCount : Nat
  restartCause : RestartCause
  receiver : Option (List Byte)
  inbound : List (List Byte)
  params : TrunkParams
  counters : InboundCounters
  deriving DecidableEq, Repr

/-! ## The outbound side (chapter 9) -/

/-- The Outbound Queues and the Trunk Transmitter (R172, R176, R183). The transmitter is SENDING exactly
while `sending` holds a message; `wakeOffer` is a WAKE offered and not yet started (R167, R177). -/
structure Outbound where
  alertQ : List Message
  replyQ : List Message
  dataQ : List Message
  sending : Option Message
  wakeOffer : Option Message
  loss : Counter
  absorbed : Counter
  lapseNotSent : Counter
  deriving DecidableEq, Repr

/-! ## Lines on which a transmission was cut short (R144, R180, R204) -/

/-- The character in progress of a transmission cut short, which its line still finishes, and the time by
which it is finished. -/
structure CutCharacter where
  character : Byte
  timer : Timer
  deriving DecidableEq, Repr

/-- The transmit lines after a cut: the character that TTXD and each pair's LTX still finish, if any.
`number` is the model's own: it counts the cuts, so that the free values of each are its own
(notes/assumptions/25.md). -/
structure CutLines where
  trunk : Option CutCharacter
  relays : Vector (Option CutCharacter) 4
  number : Nat
  deriving DecidableEq, Repr

/-! ## The Management Unit (chapters 5 and 10) -/

/-- The long map operations (R95). -/
inductive LongOp where
  | none
  | copyActive
  | commit
  deriving DecidableEq, Repr

/-- The phases of a long map operation (R95). -/
inductive Phase where
  | none
  | copying
  | checking
  | ready
  deriving DecidableEq, Repr

/-- The long-operation tracker (R95). -/
structure Tracker where
  operation : LongOp
  tag : Tag
  phase : Phase
  position : Nat
  replyOwed : Bool
  deriving DecidableEq, Repr

/-- The tracker while no long map operation is in flight (R95). -/
def Tracker.idle : Tracker :=
  { operation := .none, tag := 0#8, phase := .none, position := 0, replyOwed := false }

/-- A reply cache entry: DONE with a copy of its reply, or IN_PROGRESS with none (10.4). -/
structure CacheEntry where
  tag : Tag
  op : Byte
  reply : Option Reply
  deriving DecidableEq, Repr

/-- The Management Unit (R184). -/
structure Management where
  cache : List CacheEntry
  tracker : Tracker
  reservation : Bool
  shortRequests : Counter
  deriving DecidableEq, Repr

end Sys2Proof.Machine
end

