-- ==== Sys2Proof/Machine/Encoding.lean ====
section
/-! DEFINITION. How named fields become characters (chapter 11): the encodings of R198, the check code
of R199, and the layouts of entries, frames and messages (R200 to R203). Codes of enumerated values are
numbered from 0 in the order in which their defining table lists them (R198). -/

namespace Sys2Proof.Machine

/-! ## Field encodings (R198) -/

/-- An unsigned number within 0..255. -/
def u8 (n : Nat) : List Byte := [BitVec.ofNat 8 n]

/-- An unsigned number within 0..65535, most significant byte first. -/
def u16 (n : Nat) : List Byte := [BitVec.ofNat 8 (n / 256), BitVec.ofNat 8 n]

/-- A signed value, two's complement, most significant byte first. -/
def s16 (v : Value) : List Byte := u16 v.toNat

/-- A time or a 32-bit counter, most significant byte first. -/
def u32 (t : BitVec 32) : List Byte :=
  [BitVec.ofNat 8 (t.toNat / 16777216), BitVec.ofNat 8 (t.toNat / 65536),
    BitVec.ofNat 8 (t.toNat / 256), BitVec.ofNat 8 t.toNat]

/-- A yes/no field: 0 no, 1 yes. -/
def yesNo (b : Bool) : List Byte := u8 b.toNat

/-- A field that may be absent: a presence byte, then the value or zero bytes of its width. -/
def optional (width : Nat) (field : Option (List Byte)) : List Byte :=
  match field with
  | none => 0#8 :: List.replicate width 0#8
  | some bytes => 1#8 :: bytes

/-- A slot or NONE: 0..31, or FFh. -/
def slotOrNone (k : Option SlotId) : List Byte :=
  match k with
  | none => [0xFF#8]
  | some k => u8 k.val

/-- How long a timer has run at `now`, modulo 2^32 (00_scope, Conventions). -/
def Timer.elapsed (t : Timer) (now : Time) : Time := now - t.start

/-- The milliseconds remaining of a timer: its interval less its elapsed time (00_scope, Conventions). -/
def Timer.remaining (t : Timer) (now : Time) : Time := t.interval - t.elapsed now

/-- A timer as stopped or as the milliseconds remaining (R198). -/
def timerField (now : Time) (t : Option Timer) : List Byte :=
  match t with
  | none => [0xFF#8, 0xFF#8, 0xFF#8, 0xFF#8]
  | some t => u32 (t.remaining now)

/-! ## Codes of enumerated values (R198) -/

def BankName.code (name : BankName) : Nat := match name with | .a => 0 | .b => 1
def Role.code (r : Role) : Nat := match r with | .active => 0 | .shadow => 1
def Policy.code (p : Policy) : Nat :=
  match p with | .absorb => 0 | .always => 1 | .deadband => 2 | .transition => 3
def Sense.code (s : Sense) : Nat := match s with | .insideNormal => 0 | .outsideNormal => 1
def Trigger.code (t : Trigger) : Nat :=
  match t with | .off => 0 | .periodic => 1 | .onSample => 2 | .requestOnly => 3
def Condition.code (c : Condition) : Nat :=
  match c with | .unknown => 0 | .normal => 1 | .abnormal => 2 | .stale => 3 | .faulted => 4
/-- A report member's condition: ABSENT is code 5 (R198). -/
def memberConditionCode (c : Option Condition) : Nat := match c with | none => 5 | some c => c.code
/-- Device cause codes 0 to 11 (R198), the rows of the Cause Routing table (R56). -/
def DeviceCause.code (c : DeviceCause) : Fin 12 :=
  match c with
  | .laneSuspended n => ⟨n.val, by omega⟩
  | .dataLoss => 8
  | .alertLapse => 9
  | .mapIntegrity => 10
  | .restarted => 11
def Mask.code (m : Mask) : Nat := match m with | .masked => 0 | .unmasked => 1
def RecordState.code (r : RecordState) : Nat :=
  match r with | .queued => 0 | .sending => 1 | .awaiting => 2 | .repeatOwed => 3
def BitRate.code (b : BitRate) : Nat :=
  match b with | .r9600 => 0 | .r19200 => 1 | .r57600 => 2 | .r115200 => 3 | .r460800 => 4
def UnmatchedOption.code (u : UnmatchedOption) : Nat :=
  match u with | .discard => 0 | .forwardUnmatched => 1
/-- The enable setting, listed ON, OFF (R121). -/
def enableCode (on : Bool) : Nat := if on then 0 else 1
def LaneState.code (s : LaneState) : Nat :=
  match s with | .disabled => 0 | .hunt => 1 | .receiving => 2 | .suspended => 3
def PairMode.code (m : PairMode) : Nat := match m with | .split => 0 | .joined => 1
def RelayState.code (s : RelayState) : Nat := match s with | .idle => 0 | .gap => 1 | .sending => 2
def RelayOutcome.code (o : RelayOutcome) : Nat :=
  match o with | .sent => 0 | .discarded => 1 | .abandoned => 2
def RestartCause.code (c : RestartCause) : Nat :=
  match c with | .powerOn => 0 | .resetLine => 1 | .restartRequest => 2 | .none => 3
def LinkState.code (s : LinkState) : Nat :=
  match s with | .offline => 0 | .active => 1 | .dormant => 2 | .waking => 3
def Origin.code (o : Origin) : Nat := match o with | .periodic => 0 | .onSample => 1 | .request => 2
def TrunkClass.code (c : TrunkClass) : Nat :=
  match c with | .alert => 0 | .reply => 1 | .data => 2 | .wake => 3
def LongOp.code (o : LongOp) : Nat := match o with | .none => 0 | .copyActive => 1 | .commit => 2
def Phase.code (p : Phase) : Nat :=
  match p with | .none => 0 | .copying => 1 | .checking => 2 | .ready => 3
/-- Status codes 0 to 14, in the order of the status table of R192 (R201). -/
def Status.code (s : Status) : Nat :=
  match s with
  | .ok => 0 | .badOp => 1 | .badIndex => 2 | .badValue => 3 | .busy => 4 | .genMismatch => 5
  | .dupKey => 6 | .integrity => 7 | .laneActive => 8 | .laneMode => 9 | .laneDisabled => 10
  | .queueFull => 11 | .notTop => 12 | .unknownAlert => 13 | .alertsOutstanding => 14

/-- Operation codes 1 to 24, in the order of the operation table of R192 (R201). -/
def Operation.code (o : Operation) : Byte :=
  match o with
  | .readPoint => 1#8 | .writePoint => 2#8 | .readGroup => 3#8 | .writeGroup => 4#8
  | .clearShadow => 5#8 | .copyActive => 6#8 | .commit => 7#8 | .readCondition => 8#8
  | .setSlot => 9#8 | .readSlot => 10#8 | .clearSlot => 11#8 | .setRoute => 12#8
  | .alertDone => 13#8 | .readStack => 14#8 | .setLane => 15#8 | .readLane => 16#8
  | .clearLaneCounters => 17#8 | .setPair => 18#8 | .relay => 19#8 | .triggerGroup => 20#8
  | .setTrunk => 21#8 | .enterDormant => 22#8 | .readDevice => 23#8 | .restart => 24#8

/-- The raise-on subset: bit k is the k-th listed member (R198, R202). -/
def RaiseOn.code (r : RaiseOn) : Nat :=
  r.abnormal.toNat + 2 * r.normalReturn.toNat + 4 * r.stale.toNat + 8 * r.fault.toNat

/-- A cause entry: its kind, then the point id or the device cause code (R198). -/
def Cause.field (c : Cause) : List Byte :=
  match c with
  | .point id => u8 0 ++ u8 id.val
  | .device d => u8 1 ++ u8 d.code.val

/-- A list of causes: a count byte, then the entries in order (R198). -/
def causesField (cs : List Cause) : List Byte := u8 cs.length ++ cs.flatMap Cause.field

/-! ## Check codes (R199) -/

/-- One bit of the CRC-16: shift left, and subtract the polynomial when the top bit leaves. -/
def crcShift (r : CheckCode) : CheckCode :=
  if r.msb then (r <<< 1) ^^^ Config.crcPolynomial else r <<< 1

/-- `n` bits of the CRC-16. -/
def crcShifts (n : Nat) (r : CheckCode) : CheckCode :=
  match n with
  | 0 => r
  | n + 1 => crcShifts n (crcShift r)

/-- One byte fed in, most significant bit first. -/
def crcByte (r : CheckCode) (b : Byte) : CheckCode :=
  crcShifts 8 (r ^^^ (b.setWidth 16 <<< 8))

/-- The CRC-16 of a span of bytes: start FFFFh, not inverted at the end (R199). -/
def crc16 (bytes : List Byte) : CheckCode := bytes.foldl crcByte Config.crcInitial

/-- A check code as two characters, most significant byte first (R199). -/
def codeField (c : CheckCode) : List Byte := u16 c.toNat

/-! ## Entries (R202, R199) -/

/-- The nineteen bytes of a point entry (R202). -/
def PointEntry.bytes (e : PointEntry) : List Byte :=
  yesNo e.valid ++ u8 e.lane.val ++ u8 e.node.val ++ u8 e.index.val ++ u8 e.policy.code ++
  u16 e.deadband ++ u8 e.sense.code ++ s16 e.lower ++ s16 e.upper ++ u16 e.hysteresis ++
  u8 e.qualify ++ u16 e.staleLimit ++ u8 e.raiseOn.code ++ slotOrNone e.slot

/-- The six bytes of a group entry: trigger, start, length, period, trigger member (R199). -/
def GroupEntry.bytes (g : GroupEntry) : List Byte :=
  u8 g.trigger.code ++ u8 g.start.val ++ u8 g.length ++ u16 g.period ++ u8 g.triggerMember

/-- The check code computed from a point entry's contents (R10, R199). -/
def PointEntry.checkCode (e : PointEntry) : CheckCode := crc16 e.bytes

/-- The check code computed from a group entry's contents (R10, R199). -/
def GroupEntry.checkCode (g : GroupEntry) : CheckCode := crc16 g.bytes

/-- A point entry as a write stores it: its contents, their code and a clear mark (R6). -/
def PointEntry.stored (e : PointEntry) : Stored PointEntry := ⟨e, e.checkCode, false⟩

/-- A group entry as a write stores it: its contents, their code and a clear mark (R8). -/
def GroupEntry.stored (g : GroupEntry) : Stored GroupEntry := ⟨g, g.checkCode, false⟩

/-- Whether a stored point entry agrees with its code (R11). -/
def pointAgrees (e : Stored PointEntry) : Bool := e.entry.checkCode == e.code

/-- Whether a stored group entry agrees with its code (R11). -/
def groupAgrees (g : Stored GroupEntry) : Bool := g.entry.checkCode == g.code

/-! ## Trunk parameters and the identity -/

/-- The identity: family, part and silicon revision (R198). -/
def identityField : List Byte :=
  u8 Config.familyCode ++ u8 Config.partCode ++ u8 Config.revisionCode

/-- The five trunk parameters in six bytes (R201). -/
def TrunkParams.field (p : TrunkParams) : List Byte :=
  u8 p.silenceTimeout ++ u8 p.wakeInterval ++ u8 p.wakeLimit ++ u16 p.ackTimeout ++ u8 p.retryLimit

/-- The capacities an ATTACH_REPLY carries, in the order of R157: points, groups, slots, levels,
in-service records, lanes, pairs, Alert, Reply, Data, inbound and relay queues, reply cache, largest
inbound payload. -/
def capacitiesField : List Byte :=
  u16 256 ++ u8 16 ++ u8 32 ++ u8 4 ++ u8 Config.stackCapacity ++ u8 8 ++ u8 4 ++
  u8 Config.alertCapacity ++ u8 Config.replyCapacity ++ u8 Config.dataCapacity ++
  u8 Config.inboundCapacity ++ u8 Config.relayCapacity ++ u8 Config.cacheCapacity ++
  u8 Config.maxInboundPayload

/-! ## Messages sent on the trunk (R201, R203) -/

/-- The flags byte of a DATA message: bit 0 transition, bit 1 FAULT, bit 2 HELD (R203). -/
def dataFlags (m : DataMessage) : Nat :=
  m.transition.toNat + 2 * m.reading.fault.toNat + 4 * m.reading.held.toNat

/-- A member entry of a REPORT (R112, R201). -/
def ReportMember.field (m : ReportMember) : List Byte :=
  u8 m.point.val ++ u8 (memberConditionCode m.condition) ++ optional 2 (m.lastValue.map s16) ++
  optional 2 (m.age.map u16)

/-- The payload of a message (R201, R203, and the rule that lists the message's fields). The FAULT and HELD
flags of an UNMATCHED are two yes/no bytes in that order (DESIGN CHOICE, notes/assumptions/21.md). -/
def Message.payload (m : Message) : List Byte :=
  match m with
  | .attachReply m =>
    identityField ++ u16 m.generation.toNat ++ u8 m.bank.code ++ u8 m.cause.code ++ u32 m.time ++
    m.params.field ++ capacitiesField
  | .reply m => [m.tag, m.op] ++ u8 m.status.code ++ m.results
  | .relayDone m => [m.tag] ++ u8 m.lane.val ++ u8 m.outcome.code
  | .data m =>
    u8 m.point.val ++ u8 m.condition.code ++ u8 (dataFlags m) ++ u8 m.sequence.toNat ++
    s16 m.reading.value ++ u32 m.time
  | .unmatched m =>
    u8 m.key.lane.val ++ u8 m.key.node.val ++ u8 m.key.index.val ++ u8 m.sequence.toNat ++
    s16 m.reading.value ++ yesNo m.reading.fault ++ yesNo m.reading.held ++ u32 m.time
  | .report m =>
    u8 m.group.val ++ u8 m.origin.code ++ optional 1 (m.tag.map (fun t => [t])) ++
    u16 m.generation.toNat ++ u32 m.time ++ u8 m.members.length ++
    m.members.flatMap ReportMember.field
  | .alert m =>
    [m.number] ++ u8 m.slot.val ++ u8 m.level.val ++ u8 m.repeatCount ++ u32 m.captureTime ++
    yesNo m.overflow ++ causesField m.causes
  | .lapse m =>
    [m.number] ++ u8 m.slot.val ++ u8 m.level.val ++ u8 m.repeatCount ++ u32 m.time
  | .wake m => u8 m.number ++ u8 m.level ++ u32 m.time

/-- The kind code of an outbound message (R201). -/
def Message.kind (m : Message) : Nat :=
  match m with
  | .attachReply _ => 0x81
  | .reply _ => 0x82
  | .relayDone _ => 0x83
  | .data _ => 0x84
  | .unmatched _ => 0x85
  | .report _ => 0x86
  | .alert _ => 0x87
  | .lapse _ => 0x88
  | .wake _ => 0x89

/-- The characters of a message that its check code covers: kind, payload length, payload (R199). -/
def Message.span (m : Message) : List Byte :=
  u8 m.kind ++ u8 m.payload.length ++ m.payload

/-- The characters a message occupies on the trunk: the delimiter, the covered span, and the two check
characters (R176, R201). -/
def Message.chars (m : Message) : List Byte :=
  Config.trunkDelimiter :: (m.span ++ codeField (crc16 m.span))

/-! ## COMMAND frames (R143, R200) -/

/-- The characters of a COMMAND frame that its CRC covers: the header (kind 3 and the node), the payload
length, the payload (R200). -/
def RelayFrame.span (f : RelayFrame) : List Byte :=
  u8 (3 * 32 + f.node.val) ++ u8 f.payload.length ++ f.payload

/-- The characters a Relay Transmitter drives for a relay frame (R143, R200). -/
def RelayFrame.chars (f : RelayFrame) : List Byte :=
  Config.laneDelimiter :: (f.span ++ codeField (crc16 f.span))

end Sys2Proof.Machine
end

