-- ==== Sys2Proof/Machine/ResetValues.lean ====
section
/-! DEFINITION. The values of the tables and of the larger records after cold reset, block by block. -/

namespace Sys2Proof.Machine

/-- A bank after cold reset or CLEAR_SHADOW: invalid-entry contents, group-off contents, their computed
codes, clear marks (R4, R7, R19, R94). -/
def Bank.empty : Bank :=
  { points := Vector.replicate 256 PointEntry.invalid.stored,
    groups := Vector.replicate 16 GroupEntry.groupOff.stored }

/-- The Map Store after cold reset (R19). -/
def MapStore.coldReset : MapStore :=
  { bankA := Bank.empty, bankB := Bank.empty, active := .a, keyIndex := [], generation := 0#16,
    partialIndex := [] }

/-- Slots 1 to 31 after cold reset: level 3, MASKED, empty (R64). -/
def Slot.coldReset : Slot := { level := 3, mask := .masked, causes := [], overflow := false }

/-- Slot 0 after cold reset: level 0, UNMASKED, holding RESTARTED, which the reset raises into it (R64). -/
def Slot.coldResetZero : Slot :=
  { level := 0, mask := .unmasked, causes := [.device .restarted], overflow := false }

/-- The Slot Table after cold reset and its raise of RESTARTED (R64). -/
def slotsColdReset : Vector Slot 32 :=
  rowZero (Vector.replicate 32 Slot.coldReset)
where
  /-- Row 0 replaced by slot 0's own reset values. -/
  rowZero (v : Vector Slot 32) : Vector Slot 32 := v.set 0 Slot.coldResetZero

/-- The Cause Routing table after cold reset: every device cause to slot 0 (R64). -/
def routingColdReset : Vector (Option SlotId) 12 := Vector.replicate 12 (some 0)

/-- A lane after cold reset (R147). -/
def Lane.coldReset : Lane :=
  { settings := LaneSettings.default, state := .disabled, frame := none, holdoffElapsed := false,
    errors := 0, holdoffTimer := none, fifo := [], counters := LaneCounters.zero }

/-- A Relay Transmitter after cold reset, warm restart, enable and disable (R140). -/
def RelayTransmitter.reset : RelayTransmitter := { state := .idle, sending := none, queue := [] }

/-- A pair after cold reset: SPLIT (R124, R147). -/
def Pair.coldReset : Pair := { mode := .split, relay := RelayTransmitter.reset }

/-- The Trunk Link Controller after a cold reset with this restart cause (R170). -/
def LinkControl.coldReset (cause : RestartCause) : LinkControl :=
  { state := .offline, silenceTimer := none, wakeTimer := none, wakeCount := 0,
    restartCause := cause, receiver := none, inbound := [], params := TrunkParams.default,
    counters := InboundCounters.zero }

/-- The outbound side after cold reset and after warm restart (R182). -/
def Outbound.reset : Outbound :=
  { alertQ := [], replyQ := [], dataQ := [], sending := none, wakeOffer := none, loss := 0#32,
    absorbed := 0#32, lapseNotSent := 0#32 }

/-- The transmit lines at cold reset: all idle at once (R204); the cuts' number is kept. -/
def CutLines.idle (number : Nat) : CutLines :=
  { trunk := none, relays := Vector.replicate 4 none, number := number }

/-- The Management Unit after cold reset and after warm restart (R184, R196). -/
def Management.reset : Management :=
  { cache := [], tracker := Tracker.idle, reservation := false, shortRequests := 0#32 }

end Sys2Proof.Machine
end

