-- ==== Sys2Proof/Machine/State.lean ====
section
/-! DEFINITION. The state of the TC-48, block by block, the reasons a step could stop, and the state
after reset. -/

namespace Sys2Proof.Machine

/-- Everything the manual gives the part, and the queue of the commands that wait. -/
structure State where
  /-- The commands that wait, first in, first out (the model's own, notes/assumptions/2.md). -/
  pending : List Instr
  /-- Whether the part is held in cold reset (R204). -/
  inReset : Bool
  /-- Device time, the Time Base's free-running count of milliseconds. -/
  deviceTime : Time
  /-- The code sampled from the straps RATE2, RATE1, RATE0 (R204). -/
  trunkRate : Fin 8
  /-- The Map Store (chapter 1). -/
  map : MapStore
  /-- The Condition Table: one runtime record per point id (R24). -/
  records : Vector RuntimeRecord 256
  /-- The Classifier's lane service pointer (R21). -/
  servicePointer : LaneId
  /-- The Group Reporter's period timers (R114). -/
  periodTimers : Vector (Option Timer) 16
  /-- The Slot Table (R49). -/
  slots : Vector Slot 32
  /-- The Cause Routing table, by device cause code; `none` is NONE (R56). -/
  routing : Vector (Option SlotId) 12
  /-- The in-service stack, bottom first (R66). -/
  stack : List InService
  /-- The alert-number counter (R68). -/
  alertCounter : AlertNumber
  /-- The lane records (R120). -/
  lanes : Vector Lane 8
  /-- The pairs: modes and Relay Transmitters (R124, R140). -/
  pairs : Vector Pair 4
  /-- The Trunk Link Controller (R149). -/
  link : LinkControl
  /-- The Outbound Queues and the Trunk Transmitter (R172, R176). -/
  out : Outbound
  /-- The Management Unit (R184). -/
  mgmt : Management
  /-- The lines that finish a character of a transmission cut short (R144, R180, R204). -/
  cuts : CutLines
  deriving DecidableEq, Repr

/-- The reasons the block could stop with a fault: none. The manual describes no event after which the
part stops; every error it can meet is counted, refused in a reply, or raised as a cause. Raised by no
command; safe. -/
inductive Fault where
  deriving DecidableEq, Repr

/-- The reasons a command could be refused. -/
inductive Refusal where
  /-- The command has no meaning in the model yet. Raised by no command: every row has its meaning; safe. -/
  | notModelled (mnemonic : String)
  deriving DecidableEq, Repr

/-- Every block at its cold reset value, with the given restart cause, hold, strap code, queue and number of
cuts (R19, R25, R64, R89, R115, R147, R170, R182, R184, R204; the lane service pointer by R21). -/
def State.atColdReset (cause : RestartCause) (hold : Bool) (straps : Fin 8) (queue : List Instr)
    (number : Nat) : State :=
  { pending := queue
    inReset := hold
    deviceTime := 0#32
    trunkRate := straps
    map := MapStore.coldReset
    records := Vector.replicate 256 RuntimeRecord.cleared
    servicePointer := 7
    periodTimers := Vector.replicate 16 none
    slots := slotsColdReset
    routing := routingColdReset
    stack := []
    alertCounter := 0#8
    lanes := Vector.replicate 8 Lane.coldReset
    pairs := Vector.replicate 4 Pair.coldReset
    link := LinkControl.coldReset cause
    out := Outbound.reset
    mgmt := Management.reset
    cuts := CutLines.idle number }

/-- The part right after a power-on reset that it has left: device time starts from 0 (R204). The strap
code, which only the board fixes, is 0 (notes/assumptions/4.md). -/
def State.reset : State := State.atColdReset .powerOn false 0 [] 0

end Sys2Proof.Machine
end

