-- ==== Sys2Proof/Machine/Table.lean ====
section
/-! DEFINITION. Tables of a fixed number of like rows (256 records, 32 slots, 8 lanes …): listing their
indexes, rewriting one row, rewriting every row, and listing rows with their indexes. -/

namespace Sys2Proof.Machine

/-- The indexes of a table of `n` rows, in ascending order. -/
def allFin (n : Nat) : List (Fin n) :=
  (List.range n).pmap (fun i h => ⟨i, h⟩) (fun _ h => List.mem_range.mp h)

@[simp] theorem allFin_length (n : Nat) : (allFin n).length = n := by simp [allFin]

/-- The table with row `i` replaced by `x`. -/
def rowSet {α : Type} {n : Nat} (v : Vector α n) (i : Fin n) (x : α) : Vector α n :=
  v.set i.val x i.isLt

/-- The table with every row rewritten by `f` from its index and its contents. -/
def rowsMap {α β : Type} {n : Nat} (f : Fin n → α → β) (v : Vector α n) : Vector β n :=
  ⟨⟨List.zipWith f (allFin n) v.toList⟩, by simp⟩

/-- The rows of a table with their indexes, in ascending order. -/
def rows {α : Type} {n : Nat} (v : Vector α n) : List (Fin n × α) :=
  (allFin n).zip v.toList

end Sys2Proof.Machine
end

