-- ==== Sys2Proof/Machine/Flags.lean ====
section
/-! DEFINITION. The values the manual derives from the state: timers reached, enables and listening,
pending and selectable slots, the service level, the wake demand, free queue entries, and the pins. -/

namespace Sys2Proof.Machine

/-! ## Timers -/

/-- A timer started at `now` with an interval of `ms` milliseconds (00_scope, Conventions). -/
def startTimer (now : Time) (ms : Nat) : Timer := { start := now, interval := BitVec.ofNat 32 ms }

/-- Whether a timer is running and has reached its expiry: its elapsed time equals its interval
(00_scope, Conventions). -/
def timerDue (now : Time) (t : Option Timer) : Bool :=
  match t with
  | none => false
  | some t => t.elapsed now == t.interval

/-! ## Banks -/

/-- The other physical bank. -/
def BankName.other (name : BankName) : BankName :=
  match name with
  | .a => .b
  | .b => .a

/-- The bank of that name. -/
def MapStore.bank (m : MapStore) (name : BankName) : Bank :=
  match name with
  | .a => m.bankA
  | .b => m.bankB

/-- The physical bank that holds a role (R1). -/
def MapStore.nameOf (m : MapStore) (r : Role) : BankName :=
  match r with
  | .active => m.active
  | .shadow => m.active.other

/-- The bank that holds the active role (R1, R2). -/
def MapStore.activeBank (m : MapStore) : Bank := m.bank m.active

/-- The bank that holds the shadow role (R1). -/
def MapStore.shadowBank (m : MapStore) : Bank := m.bank m.active.other

/-- The stored active entry of a point id. -/
def State.activePoint (s : State) (p : PointId) : Stored PointEntry := s.map.activeBank.points[p]

/-- The stored active entry of a group. -/
def State.activeGroup (s : State) (g : GroupId) : Stored GroupEntry := s.map.activeBank.groups[g]

/-- Whether an entry counts as valid: it is valid and not marked faulted (R17). -/
def pointUsable (e : Stored PointEntry) : Bool := e.entry.valid && !e.mark

/-! ## Lanes and pairs -/

/-- A lane is enabled in every state but DISABLED (R126). -/
def Lane.enabled (l : Lane) : Bool := l.state != .disabled

/-- The pair of a lane (R124). -/
def pairOf (l : LaneId) : PairId := ⟨l.val / 2, by omega⟩

/-- The even lane of a pair (R124). -/
def evenLane (k : PairId) : LaneId := ⟨2 * k.val, by omega⟩

/-- The odd lane of a pair (R124). -/
def oddLane (k : PairId) : LaneId := ⟨2 * k.val + 1, by omega⟩

/-- Whether a lane is the even lane of its pair. -/
def isEven (l : LaneId) : Bool := l.val % 2 == 0

/-- The other lane of the pair. -/
def partner (l : LaneId) : LaneId := if isEven l then oddLane (pairOf l) else evenLane (pairOf l)

/-- Whether a lane belongs to a JOINED pair (R124). -/
def State.joined (s : State) (l : LaneId) : Bool := s.pairs[pairOf l].mode == .joined

/-- Whether a lane is the even lane of a JOINED pair, which carries COMMAND frames and does not receive
(R124, R139). -/
def State.transmitting (s : State) (l : LaneId) : Bool := s.joined l && isEven l

/-- Whether a lane is listening: enabled, and not the even lane of a JOINED pair (R26). -/
def State.listening (s : State) (l : LaneId) : Bool := s.lanes[l].enabled && !s.transmitting l

/-- The relay frames of a Relay Transmitter: the one in transmission, then those queued (R144). -/
def RelayTransmitter.frames (r : RelayTransmitter) : List RelayFrame := r.sending.toList ++ r.queue

/-- How many of a Relay Transmitter's frames hold a Reply queue reservation (R142). -/
def RelayTransmitter.reserved (r : RelayTransmitter) : Nat :=
  r.frames.countP (fun f => f.confirm == some .reserved)

/-! ## Slots and the in-service stack -/

/-- A slot is pending when its cause set is not empty or its overflow is set (R50). -/
def Slot.pending (sl : Slot) : Bool := !sl.causes.isEmpty || sl.overflow

/-- The service level: the level of the top record, or 4 (R66). -/
def serviceLevel (stack : List InService) : Nat :=
  match stack.getLast? with
  | none => 4
  | some r => r.level.val

/-- The record captured from a slot, if one is in the stack (R68). -/
def recordOfSlot (stack : List InService) (k : SlotId) : Option InService :=
  stack.find? (fun r => r.slot == k)

/-- Whether a slot meets the slot conditions of R69: pending, UNMASKED, with no record in the stack, and
of a level below the service level. -/
def slotSelectable (stack : List InService) (k : SlotId) (sl : Slot) : Bool :=
  sl.pending && sl.mask == .unmasked && (recordOfSlot stack k).isNone &&
    sl.level.val < serviceLevel stack

/-- The slot a selection chooses: the lowest level, then the lowest slot number (R69). -/
def bestSlot (stack : List InService) (slots : Vector Slot 32) : Option SlotId :=
  [0, 1, 2, 3].findSome? fun level =>
    (rows slots).findSome? fun row =>
      if slotSelectable stack row.1 row.2 && row.2.level.val == level then some row.1 else none

/-- The wake demand: some slot meets the slot conditions of R69 (R87). -/
def State.wakeDemand (s : State) : Bool := (bestSlot s.stack s.slots).isSome

/-- The best pending level: the lowest level among such slots, or 4 (R87). -/
def State.bestPendingLevel (s : State) : Nat :=
  match bestSlot s.stack s.slots with
  | none => 4
  | some k => s.slots[k].level.val

/-- How many records are REPEAT_OWED (R78). -/
def owedCount (stack : List InService) : Nat := stack.countP (fun r => r.state == .repeatOwed)

/-! ## Queues -/

/-- Free entries of the Alert queue (R175). -/
def Outbound.alertFree (o : Outbound) : Nat := Config.alertCapacity - o.alertQ.length

/-- The Reply queue reservations: a long map operation's and the confirmed relay frames' (R174). -/
def State.reservations (s : State) : Nat :=
  s.mgmt.reservation.toNat + (s.pairs.toList.map (fun p => p.relay.reserved)).sum

/-- Free entries of the Reply queue: 4 less its messages less its reservations (R174). -/
def State.replyFree (s : State) : Nat :=
  Config.replyCapacity - (s.out.replyQ.length + s.reservations)

/-- Whether the Data queue accepts a message: the link is ACTIVE and it holds fewer than 32 (R173). -/
def State.dataAccepts (s : State) : Bool :=
  s.link.state == .active && s.out.dataQ.length < Config.dataCapacity

/-- The class of a message (R172, R176). -/
def Message.trunkClass (m : Message) : TrunkClass :=
  match m with
  | .alert _ => .alert
  | .lapse _ => .alert
  | .reply _ => .reply
  | .attachReply _ => .reply
  | .relayDone _ => .reply
  | .data _ => .data
  | .unmatched _ => .data
  | .report _ => .data
  | .wake _ => .wake

/-- Whether a message is a LAPSE. -/
def Message.isLapse (m : Message) : Bool :=
  match m with
  | .lapse _ => true
  | _ => false

/-! ## Pins and line times (R127, R176, R204) -/

/-- The LDE pin of a pair's even lane: high while the JOINED pair's Relay Transmitter is SENDING (R204). -/
def State.lde (s : State) (k : PairId) : Bool :=
  s.pairs[k].mode == .joined && s.pairs[k].relay.state == .sending

/-- The characters an idle transmitter's line carries: the one it still finishes after a cut, if any (R144,
R180, R204). -/
def CutCharacter.chars (c : Option CutCharacter) : List Byte := (c.map CutCharacter.character).toList

/-- The characters a pair's LTX pin carries: those of the COMMAND frame in transmission; with none in
transmission, the one of a frame cut short that is still being finished, unless the pair is SPLIT; otherwise
none, idle high (R143, R144, R204). -/
def State.ltx (s : State) (k : PairId) : List Byte :=
  match s.pairs[k].relay.sending with
  | none =>
    match s.pairs[k].mode with
    | .split => []
    | .joined => CutCharacter.chars s.cuts.relays[k]
  | some f => f.chars

/-- The characters the TTXD pin carries: those of the message in transmission; with none in transmission,
the one of a message cut short that is still being finished; otherwise none, idle high (R176, R180, R204). -/
def State.ttxd (s : State) : List Byte :=
  match s.out.sending with
  | none => CutCharacter.chars s.cuts.trunk
  | some m => m.chars

/-- A lane bit rate in bit/s (R121). -/
def BitRate.bitsPerSecond (r : BitRate) : Nat :=
  match r with
  | .r9600 => 9600
  | .r19200 => 19200
  | .r57600 => 57600
  | .r115200 => 115200
  | .r460800 => 460800

/-- How many trunk bit times a transmission lasts: ten for each of its L + 5 characters (R176). -/
def Message.bitTimes (m : Message) : Nat := (m.payload.length + 5) * 10

end Sys2Proof.Machine
end

