-- ==== Sys2Proof/WellFormed.lean ====
section
/-! DEFINITION. Which commands a line of the part can carry at all: a frame end or a message end whose
characters agree with the way it ended, and a valid message whose payload an inbound message can announce. -/

namespace Sys2Proof

/-- Whether the characters after a lane's start delimiter agree with the way the frame ended (R127,
R200): an eighteenth character, and only it, ends a frame as over-length. -/
def frameCharsAgree (cause : FrameEndCause) (chars : List Byte) : Bool :=
  match cause with
  | .overLength => chars.length == Config.longestFrame + 1
  | .idleGap => chars.length ≤ Config.longestFrame
  | .framingFault => chars.length ≤ Config.longestFrame

/-- How many characters a message whose first characters are these has after its start delimiter, once
its length character is there: the kind, the length, the payload and two check characters (R152). -/
def announcedLength (chars : List Byte) : Option Nat :=
  match chars with
  | _ :: length :: _ => some (length.toNat + 4)
  | _ => none

/-- Whether the characters after the trunk's start delimiter agree with the way the message ended
(R152): the last announced character ends it, and a fault or a gap ends it before. -/
def messageCharsAgree (cause : MessageEndCause) (chars : List Byte) : Bool :=
  match cause, announcedLength chars with
  | .lastCharacter, some n => chars.length == n
  | .lastCharacter, none => false
  | _, some n => chars.length < n
  | _, none => true

/-- Whether an inbound message can announce this payload and be taken whole (R152). -/
def payloadFits (payload : List Byte) : Bool :=
  payload.length ≤ Config.maxInboundPayload

/-- The commands that an event at the part's pins can give. -/
def Instr.wellFormed (i : Instr) : Bool :=
  match i with
  | .frameEnd _ cause chars => frameCharsAgree cause chars
  | .messageEnd cause chars => messageCharsAgree cause chars
  | .attach payload => payloadFits payload
  | .request payload => payloadFits payload
  | .keepalive payload => payloadFits payload
  | .coldReset _ => true
  | .resetRelease _ => true
  | .holdoffExpiry _ => true
  | .frameTaken => true
  | .staleExpiry _ => true
  | .periodTimerExpiry _ => true
  | .copyActiveEntry => true
  | .checkPassEntry => true
  | .commitCompletion => true
  | .capture => true
  | .acknowledgementTimerExpiry _ => true
  | .owedRepeatPlacement => true
  | .transmissionStart => true
  | .transmissionCompletion => true
  | .silenceTimerExpiry => true
  | .wakeTimerExpiry => true
  | .gapEnd _ => true
  | .relayTransmissionStart _ => true
  | .relayTransmissionCompletion _ => true
  | .shortRequest => true
  | .badOp => true
  | .readPoint => true
  | .writePoint => true
  | .readGroup => true
  | .writeGroup => true
  | .clearShadow => true
  | .copyActive => true
  | .commit => true
  | .readCondition => true
  | .setSlot => true
  | .readSlot => true
  | .clearSlot => true
  | .setRoute => true
  | .alertDone => true
  | .readStack => true
  | .setLane => true
  | .readLane => true
  | .clearLaneCounters => true
  | .setPair => true
  | .relay => true
  | .triggerGroup => true
  | .setTrunk => true
  | .enterDormant => true
  | .readDevice => true
  | .restart => true
  | .laneFrameBegin _ => true
  | .trunkMessageBegin => true

end Sys2Proof
end

