-- ==== Sys2Proof/Machine/Operands.lean ====
section
/-! DEFINITION. The operand forms a REQUEST payload and a lane frame carry: fields read from their bytes
(R198, R200 to R202), and the ordered checks the owning rules make on them. -/

namespace Sys2Proof.Machine

/-- Byte `i` of a layout (R200 to R203 count bytes from 0). -/
def byteAt (bytes : List Byte) (i : Nat) : Byte := bytes.getD i 0#8

/-- The number byte `i` carries (R198). -/
def numAt (bytes : List Byte) (i : Nat) : Nat := (byteAt bytes i).toNat

/-- The unsigned number in bytes `i` and `i + 1`, most significant first (R198). -/
def wordAt (bytes : List Byte) (i : Nat) : Nat := numAt bytes i * 256 + numAt bytes (i + 1)

/-- The signed value in bytes `i` and `i + 1`, most significant first (R198). -/
def valueAt (bytes : List Byte) (i : Nat) : Value := byteAt bytes i ++ byteAt bytes (i + 1)

/-- The first check of a list that fails, by the figure the list gives it: the checks of an owning rule,
made in the order of its table (R192 test 4). -/
def firstFailure {α : Type} (checks : List (Bool × α)) : Option α :=
  (checks.find? (fun c => !c.1)).map (fun c => c.2)

/-! ## Enumerated operands (R198) -/

/-- The enumerated value whose code a byte is, from the values in the order of their codes. -/
def enumOf {α : Type} (values : List α) (b : Byte) : Option α := values[b.toNat]?

def roles : List Role := [.active, .shadow]
def policies : List Policy := [.absorb, .always, .deadband, .transition]
def senses : List Sense := [.insideNormal, .outsideNormal]
def triggers : List Trigger := [.off, .periodic, .onSample, .requestOnly]
def masks : List Mask := [.masked, .unmasked]
def bitRates : List BitRate := [.r9600, .r19200, .r57600, .r115200, .r460800]
def unmatchedOptions : List UnmatchedOption := [.discard, .forwardUnmatched]
def pairModes : List PairMode := [.split, .joined]
/-- Enable, in the order ON, OFF (R121); true is ON. -/
def enables : List Bool := [true, false]
/-- The RELAY confirm flag, a yes/no field; true is YES (R198). -/
def confirms : List Bool := [false, true]
/-- The counters option of READ_CONDITION, in the order KEEP, CLEAR (R48); true is CLEAR. -/
def countersOptions : List Bool := [false, true]
/-- The twelve device causes by code (R198). -/
def deviceCauses : List DeviceCause :=
  [.laneSuspended 0, .laneSuspended 1, .laneSuspended 2, .laneSuspended 3, .laneSuspended 4,
    .laneSuspended 5, .laneSuspended 6, .laneSuspended 7, .dataLoss, .alertLapse, .mapIntegrity,
    .restarted]

/-- A raise-on byte's subset (R202). -/
def raiseOnOf (b : Byte) : RaiseOn :=
  { abnormal := b.getLsbD 0, normalReturn := b.getLsbD 1, stale := b.getLsbD 2, fault := b.getLsbD 3 }

/-- A slot-or-NONE byte (R198); a byte that is neither is refused by the owning rule's check. -/
def slotOf (b : Byte) : Option SlotId :=
  if h : b.toNat < 32 then some ⟨b.toNat, h⟩ else none

/-- Whether a byte is a slot 0..31 or NONE (R198). -/
def slotByteOk (b : Byte) : Bool := b.toNat < 32 || b == 0xFF#8

/-! ## The point entry of WRITE_POINT (R5, R202) -/

/-- The entry that the nineteen bytes of R202 carry once every check of R5 has passed. -/
def pointOfBytes (b : List Byte) : PointEntry :=
  { valid := true
    lane := Fin.ofNat 8 (numAt b 1)
    node := Fin.ofNat 32 (numAt b 2)
    index := Fin.ofNat 16 (numAt b 3)
    policy := (enumOf policies (byteAt b 4)).getD .absorb
    deadband := wordAt b 5
    sense := (enumOf senses (byteAt b 7)).getD .insideNormal
    lower := valueAt b 8
    upper := valueAt b 10
    hysteresis := wordAt b 12
    qualify := numAt b 14
    staleLimit := wordAt b 15
    raiseOn := raiseOnOf (byteAt b 17)
    slot := slotOf (byteAt b 18) }

/-- The thirteen checks of R5 on the nineteen bytes of R202, each with the field number its failure
names: lane 2 to slot 14 (R198). -/
def pointChecks (b : List Byte) : List (Bool × Nat) :=
  [(numAt b 1 < 8, 2),
    (numAt b 2 ≤ 30, 3),
    (numAt b 3 < 16, 4),
    ((enumOf policies (byteAt b 4)).isSome, 5),
    (wordAt b 5 ≤ 32767, 6),
    ((enumOf senses (byteAt b 7)).isSome, 7),
    ((valueAt b 8).toInt ≤ (valueAt b 10).toInt, 9),
    (wordAt b 12 ≤ 4095, 10),
    (enumOf senses (byteAt b 7) != some .insideNormal ||
      2 * (wordAt b 12 : Int) ≤ (valueAt b 10).toInt - (valueAt b 8).toInt, 10),
    (1 ≤ numAt b 14 && numAt b 14 ≤ 8, 11),
    (wordAt b 15 ≤ 600, 12),
    (numAt b 17 < 16, 13),
    (slotByteOk (byteAt b 18), 14)]

/-- The entry WRITE_POINT stores from the nineteen bytes after its point id, or the number of the field
whose check failed (R4, R5, R202). -/
def readPointEntry (b : List Byte) : Except Nat PointEntry :=
  if byteAt b 0 = 0#8 then .ok PointEntry.invalid
  else
    match firstFailure (pointChecks b) with
    | some field => .error field
    | none => .ok (pointOfBytes b)

/-! ## The group entry of WRITE_GROUP (R8) -/

/-- The five checks of R8 on the six bytes after the group number, each with the field number its failure
names: trigger 2 to trigger member 6 (R198). -/
def groupChecks (b : List Byte) : List (Bool × Nat) :=
  [((enumOf triggers (byteAt b 0)).isSome, 2),
    (1 ≤ numAt b 2 && numAt b 2 ≤ 8, 4),
    (numAt b 1 + numAt b 2 - 1 ≤ 255, 4),
    (1 ≤ wordAt b 3 && wordAt b 3 ≤ 36000, 5),
    (numAt b 5 ≤ 7 && numAt b 5 < numAt b 2, 6)]

/-- The entry that the six bytes carry once every check of R8 has passed. -/
def groupOfBytes (b : List Byte) : GroupEntry :=
  { trigger := (enumOf triggers (byteAt b 0)).getD .off
    start := (byteAt b 1).toFin
    length := numAt b 2
    period := wordAt b 3
    triggerMember := numAt b 5 }

/-- The entry WRITE_GROUP stores from the six bytes after its group number, or the number of the field
whose check failed; trigger OFF stores the group-off contents unchecked (R8). -/
def readGroupEntry (b : List Byte) : Except Nat GroupEntry :=
  if enumOf triggers (byteAt b 0) = some .off then .ok GroupEntry.groupOff
  else
    match firstFailure (groupChecks b) with
    | some field => .error field
    | none => .ok (groupOfBytes b)

/-! ## Trunk parameters (R162) -/

/-- The checks of R162 on SET_TRUNK's six bytes, each with the number of the parameter it names. -/
def trunkChecks (b : List Byte) : List (Bool × Nat) :=
  [(numAt b 0 ≤ 255, 1),
    (1 ≤ numAt b 1 && numAt b 1 ≤ 60, 2),
    (1 ≤ numAt b 2 && numAt b 2 ≤ 15, 3),
    (1 ≤ wordAt b 3 && wordAt b 3 ≤ 600, 4),
    (numAt b 5 ≤ 7, 5)]

/-- The parameters SET_TRUNK's six bytes carry, or the number of the first out of range (R162, R201). -/
def readTrunkParams (b : List Byte) : Except Nat TrunkParams :=
  match firstFailure (trunkChecks b) with
  | some field => .error field
  | none =>
    .ok
      { silenceTimeout := numAt b 0
        wakeInterval := numAt b 1
        wakeLimit := numAt b 2
        ackTimeout := wordAt b 3
        retryLimit := numAt b 5 }

/-! ## Lane frames (R128, R200) -/

/-- The readings of a frame's point records: value and quality, three characters each (R200). -/
def readings (bytes : List Byte) : List Reading :=
  match bytes with
  | v1 :: v0 :: quality :: rest =>
    { value := v1 ++ v0, fault := quality.getLsbD 0, held := quality.getLsbD 1 } :: readings rest
  | _ => []

/-- How a frame that ended is judged (R127, R128). -/
inductive FrameVerdict where
  | good (f : Frame)
  | lineError
  | checkError
  | formatError
  deriving DecidableEq, Repr

/-- The kind codes of a lane frame's header: its upper three bits (R200). -/
def frameKind (header : Byte) : Nat := header.toNat / 32

/-- The tests of R128 that follow the CRC test, in order, on the header, the two characters after it and
the number of characters after the delimiter. -/
def frameContentOk (header second third : Byte) (length : Nat) : Bool :=
  let isBurst := frameKind header == 2
  let count := second.toNat / 64 + 1
  (frameKind header == 1 || isBurst) &&
  header.toNat % 32 ≤ 30 &&
  (!isBurst || (2 ≤ count && count ≤ 4)) &&
  (!isBurst || third.toNat % 16 + count - 1 ≤ 15) &&
  length == (if isBurst then 5 + 3 * count else 8)

/-- The judgement of a frame that ended by idle gap, from the characters after its start delimiter and
its arrival time (R128, R200). -/
def judgeFrame (arrival : Time) (chars : List Byte) : FrameVerdict :=
  if chars.length < Config.shortestFrame then .formatError
  else
    let covered := chars.take (chars.length - 2)
    if chars.drop (chars.length - 2) ≠ codeField (crc16 covered) then .checkError
    else
      match covered with
      | header :: second :: third :: records =>
        if frameContentOk header second third chars.length then
          .good
            { node := Fin.ofNat 32 header.toNat
              sequence := second.setWidth 6
              startIndex := Fin.ofNat 16 third.toNat
              readings := readings records
              arrival := arrival }
        else .formatError
      | _ => .formatError

/-- The judgement of a frame by the way it ended: a framing fault is a line error, over-length a format
error, and an idle gap is judged by R128 (R127). -/
def frameVerdict (cause : FrameEndCause) (arrival : Time) (chars : List Byte) : FrameVerdict :=
  match cause with
  | .framingFault => .lineError
  | .overLength => .formatError
  | .idleGap => judgeFrame arrival chars

/-! ## Inbound trunk messages (R152, R153, R201) -/

/-- The kinds of message the part accepts (R153). -/
inductive InboundKind where
  | attach
  | request
  | keepalive
  deriving DecidableEq, Repr

/-- The inbound kind a kind character names (R201). -/
def inboundKindOf (b : Byte) : Option InboundKind :=
  if b = 0x01#8 then some .attach
  else if b = 0x02#8 then some .request
  else if b = 0x03#8 then some .keepalive
  else none

/-- The outcome of an inbound message (R152, R153). -/
inductive InboundVerdict where
  | valid (kind : InboundKind) (payload : List Byte)
  | checkError
  | unknownKind
  | oversize
  deriving DecidableEq, Repr

/-- The judgement of a message end from the characters after the start delimiter (R152, R153): an
announced length above 240 is oversize however the message ended; a fault or a gap is a check error; a
complete message is judged by its check code, then by its kind. -/
def judgeMessage (cause : MessageEndCause) (chars : List Byte) : InboundVerdict :=
  match chars with
  | kind :: length :: rest =>
    if length.toNat > Config.maxInboundPayload then .oversize
    else
      match cause with
      | .lastCharacter =>
        let payload := rest.take length.toNat
        if rest.drop length.toNat ≠ codeField (crc16 (kind :: length :: payload)) then .checkError
        else
          match inboundKindOf kind with
          | some k => .valid k payload
          | none => .unknownKind
      | _ => .checkError
  | _ => .checkError

end Sys2Proof.Machine
end

