-- ==== Sys2Proof/Machine/Ops.lean ====
section
/-! DEFINITION. The named operations over the state that several commands share: row updates, raises and
the wake demand, placements into the outbound queues, the session's timers, teardown, and the pieces of
a lane's and a relay's life. -/

namespace Sys2Proof.Machine

/-! ## Events -/

/-- The outcome of an event of the running part: the event's effect. While the part is held in cold
reset every block holds its cold reset state, and no event changes anything (R204). -/
def running (event : State → State) (s : State) : Host.Outcome State Fault Refusal :=
  .next (if s.inReset then s else event s)

/-! ## Row updates -/

/-- Replace the runtime record of a point id. -/
def State.setRecord (s : State) (p : PointId) (r : RuntimeRecord) : State :=
  { s with records := rowSet s.records p r }

/-- Replace a slot record. -/
def State.setSlot (s : State) (k : SlotId) (sl : Slot) : State :=
  { s with slots := rowSet s.slots k sl }

/-- Replace a lane record. -/
def State.setLane (s : State) (l : LaneId) (x : Lane) : State :=
  { s with lanes := rowSet s.lanes l x }

/-- Replace a pair. -/
def State.setPair (s : State) (k : PairId) (x : Pair) : State :=
  { s with pairs := rowSet s.pairs k x }

/-- Replace a group's period timer. -/
def State.setPeriodTimer (s : State) (g : GroupId) (t : Option Timer) : State :=
  { s with periodTimers := rowSet s.periodTimers g t }

/-- Replace the in-service stack. -/
def State.setStack (s : State) (stack : List InService) : State :=
  { s with stack := stack }

/-- Replace the Map Store. -/
def State.setMap (s : State) (m : MapStore) : State :=
  { s with map := m }

/-- Replace the Trunk Link Controller's state. -/
def State.setLink (s : State) (l : LinkControl) : State :=
  { s with link := l }

/-- Replace the outbound side. -/
def State.setOut (s : State) (o : Outbound) : State :=
  { s with out := o }

/-- Replace the Management Unit's state. -/
def State.setMgmt (s : State) (m : Management) : State :=
  { s with mgmt := m }

/-- Replace the bank of that name. -/
def MapStore.setBank (m : MapStore) (name : BankName) (bank : Bank) : MapStore :=
  match name with
  | .a => { m with bankA := bank }
  | .b => { m with bankB := bank }

/-- Replace the bank that holds the active role. -/
def MapStore.setActiveBank (m : MapStore) (bank : Bank) : MapStore := m.setBank m.active bank

/-- Replace the bank that holds the shadow role. -/
def MapStore.setShadowBank (m : MapStore) (bank : Bank) : MapStore := m.setBank m.active.other bank

/-- A bank with one stored point entry replaced. -/
def Bank.setPoint (bank : Bank) (p : PointId) (e : Stored PointEntry) : Bank :=
  { bank with points := rowSet bank.points p e }

/-- A bank with one stored group entry replaced. -/
def Bank.setGroup (bank : Bank) (g : GroupId) (e : Stored GroupEntry) : Bank :=
  { bank with groups := rowSet bank.groups g e }

/-! ## Raises, the wake demand and WAKE messages (R52, R56, R87, R165, R167) -/

/-- A raise of a cause into a slot (R52). -/
def Slot.raise (sl : Slot) (c : Cause) : Slot :=
  if c ∈ sl.causes then sl
  else if sl.causes.length < Config.causeCapacity then { sl with causes := sl.causes ++ [c] }
  else { sl with overflow := true }

/-- Offer a WAKE: the wake count increments and numbers it, and it carries the best pending level and the
device time of the offer (R167). The idle transmitter starts it at its offer (R167,
notes/assumptions/9.md). -/
def offerWake (s : State) : State :=
  let wake := Message.wake
    { number := s.link.wakeCount + 1, level := s.bestPendingLevel, time := s.deviceTime }
  { s with
    link := { s.link with wakeCount := s.link.wakeCount + 1 }
    out :=
      match s.out.sending with
      | none => { s.out with sending := some wake }
      | some _ => { s.out with wakeOffer := some wake } }

/-- The wake timer started at the device time with the wake interval (R167, R168). -/
def wakeTimerStart (s : State) : Option Timer :=
  some (startTimer s.deviceTime (s.link.params.wakeInterval * Config.second))

/-- The entry into WAKING from DORMANT (R167). -/
def enterWaking (s : State) : State :=
  offerWake
    { s with
      link := { s.link with state := .waking, wakeCount := 0, wakeTimer := wakeTimerStart s } }

/-- The link leaves DORMANT for WAKING when the wake demand holds (R165). -/
def wakeCheck (s : State) : State :=
  if s.link.state = .dormant ∧ s.wakeDemand then enterWaking s else s

/-- The raise of a cause into a slot or into NONE, which changes nothing (R52, R56), with the wake demand
it may begin (R87, R165). -/
def raiseInto (slot : Option SlotId) (c : Cause) (s : State) : State :=
  match slot with
  | none => s
  | some k => wakeCheck (s.setSlot k (s.slots[k].raise c))

/-- The raise of a device cause into the slot its routing row names at the event (R56). -/
def raiseDevice (d : DeviceCause) (s : State) : State :=
  raiseInto s.routing[d.code] (.device d) s

/-! ## Placements (R172 to R175) -/

/-- Place a message at the tail of the Alert queue. -/
def placeAlert (m : Message) (s : State) : State :=
  { s with out := { s.out with alertQ := s.out.alertQ ++ [m] } }

/-- Place a message at the tail of the Reply queue. -/
def placeReply (m : Message) (s : State) : State :=
  { s with out := { s.out with replyQ := s.out.replyQ ++ [m] } }

/-- Place a message at the tail of the Data queue. -/
def placeData (m : Message) (s : State) : State :=
  { s with out := { s.out with dataQ := s.out.dataQ ++ [m] } }

/-- Count one absorbed message or outcome (R183). -/
def countAbsorbed (s : State) : State :=
  { s with out := { s.out with absorbed := s.out.absorbed + 1 } }

/-- Count one loss (R183). -/
def countLoss (s : State) : State :=
  { s with out := { s.out with loss := s.out.loss + 1 } }

/-- Offer a DATA, UNMATCHED or REPORT message to the Data queue: absorbed while the link is not ACTIVE,
placed on a free entry, otherwise lost with DATA_LOSS raised (R44, R113, R173). -/
def offerData (m : Message) (s : State) : State :=
  if s.link.state ≠ .active then countAbsorbed s
  else if s.out.dataQ.length < Config.dataCapacity then placeData m s
  else raiseDevice .dataLoss (countLoss s)

/-! ## Stale timers (R27) -/

/-- The stale timer a start gives a point, if the four conditions of R27 hold: the entry valid and not
marked, a stale limit above 0, its lane listening, and the condition not STALE. -/
def staleStart (s : State) (e : Stored PointEntry) (c : Condition) : Option Timer :=
  if pointUsable e ∧ e.entry.staleLimit > 0 ∧ s.listening e.entry.lane ∧ c ≠ .stale then
    some (startTimer s.deviceTime (e.entry.staleLimit * Config.tenth))
  else none

/-! ## The session (R156, R159, R160, R165, R168) -/

/-- The silence timer as a start or restart leaves it: with silence timeout 0 it stays stopped (R159). -/
def silenceStart (now : Time) (p : TrunkParams) : Option Timer :=
  if p.silenceTimeout = 0 then none else some (startTimer now (p.silenceTimeout * Config.second))

/-- Start or restart the silence timer (R159). -/
def restartSilence (s : State) : State :=
  { s with link := { s.link with silenceTimer := silenceStart s.deviceTime s.link.params } }

/-- The link becomes ACTIVE: the wake timer stops, the silence timer starts, the wake count is kept
(R156, R165, R168). An offered WAKE that has not started is not sent (R177). -/
def becomeActive (s : State) : State :=
  { s with
    link :=
      { s.link with
        state := .active
        wakeTimer := none
        silenceTimer := silenceStart s.deviceTime s.link.params }
    out := { s.out with wakeOffer := none } }

/-- The merge-back of one record's causes and overflow into its slot (R59). -/
def mergeRecord (slots : Vector Slot 32) (r : InService) : Vector Slot 32 :=
  let merged := r.causes.foldl Slot.raise slots[r.slot]
  rowSet slots r.slot { merged with overflow := merged.overflow || r.overflow }

/-- The merge-back of the stack, from the bottom to the top (R59, R85). -/
def mergeBack (slots : Vector Slot 32) (stack : List InService) : Vector Slot 32 :=
  stack.foldl mergeRecord slots

/-- A relay frame after teardown: RESERVED becomes CANCELLED (R146). -/
def RelayFrame.cancel (f : RelayFrame) : RelayFrame :=
  if f.confirm = some .reserved then { f with confirm := some .cancelled } else f

/-- A Relay Transmitter after teardown: every confirmed frame holding a reservation is CANCELLED (R146). -/
def RelayTransmitter.cancel (r : RelayTransmitter) : RelayTransmitter :=
  { r with sending := r.sending.map RelayFrame.cancel, queue := r.queue.map RelayFrame.cancel }

/-- The messages a flush of everything reaches: the three queues and the message in transmission (R180). -/
def Outbound.messages (o : Outbound) : List Message :=
  o.alertQ ++ o.replyQ ++ o.dataQ ++ o.sending.toList

/-- The outbound side after a teardown: the message in transmission abandoned, the queues flushed, and
each flushed or abandoned Data message and LAPSE counted (R180). -/
def Outbound.teardown (o : Outbound) : Outbound :=
  { alertQ := []
    replyQ := []
    dataQ := []
    sending := none
    wakeOffer := none
    loss := o.loss
    absorbed :=
      o.absorbed + BitVec.ofNat 32 (o.messages.countP (fun m => m.trunkClass == .data))
    lapseNotSent := o.lapseNotSent + BitVec.ofNat 32 (o.messages.countP Message.isLapse) }

/-- The Trunk Link Controller after a teardown (R160). -/
def LinkControl.teardown (l : LinkControl) : LinkControl :=
  { l with state := .offline, silenceTimer := none, wakeTimer := none, inbound := [] }

/-- The Management Unit after a teardown: the reply cache is cleared, and a long map operation goes on
with no reply owed and no reservation (R109, R160, R189). -/
def Management.teardown (m : Management) : Management :=
  { m with cache := [], tracker := { m.tracker with replyOwed := false }, reservation := false }

/-! ## Transmissions cut short (R144, R180, R204) -/

/-- A transmission of these characters cut short at `now`: the line finishes the character in progress, whose
place in the transmission, and whose remaining part of ten bit times, are free values of the cut
(notes/assumptions/25.md). -/
def cutShort (number line : Nat) (now : Time) (bitsPerSecond : Nat) (chars : List Byte) : CutCharacter :=
  { character := chars.getD (Config.cutPosition number line % chars.length) 0#8
    timer :=
      startTimer now
        (1 + Config.cutMilliseconds number line % (Config.characterMilliseconds bitsPerSecond + 1)) }

/-- The character that TTXD finishes if the message in transmission is cut short: at the trunk bit rate, on
line 4 (R176, R180). -/
def State.trunkCut (s : State) : Option CutCharacter :=
  s.out.sending.map fun m =>
    cutShort s.cuts.number 4 s.deviceTime (Config.trunkRate s.trunkRate) m.chars

/-- The character that a pair's LTX finishes if the frame in transmission is cut short: at the even lane's bit
rate, on the pair's line (R143, R144). -/
def State.relayCut (s : State) (k : PairId) : Option CutCharacter :=
  s.pairs[k].relay.sending.map fun f =>
    cutShort s.cuts.number k.val s.deviceTime s.lanes[evenLane k].settings.bitRate.bitsPerSecond f.chars

/-- The lines after a cut of the trunk's transmission, if there is one (R180). -/
def State.cutTrunk (s : State) : CutLines :=
  { s.cuts with trunk := s.trunkCut.or s.cuts.trunk, number := s.cuts.number + 1 }

/-- The lines after a cut of a pair's transmission, if there is one (R144). -/
def State.cutRelay (s : State) (k : PairId) : CutLines :=
  { s.cuts with
    relays := rowSet s.cuts.relays k ((s.relayCut k).or s.cuts.relays[k])
    number := s.cuts.number + 1 }

/-- The character a line still finishes, if it is not finished by `now`. -/
def stillCut (now : Time) (c : Option CutCharacter) : Option CutCharacter :=
  c.filter fun c => !timerDue now (some c.timer)

/-- The lines at the time `now`: characters that are finished leave their lines idle (R204). -/
def CutLines.settle (now : Time) (l : CutLines) : CutLines :=
  { l with trunk := stillCut now l.trunk, relays := rowsMap (fun _ c => stillCut now c) l.relays }

/-! ## Teardown (R160) -/

/-- Teardown: the link goes to OFFLINE and the session's outstanding work is ended block by block
(R160). -/
def teardown (s : State) : State :=
  { s with
    slots := mergeBack s.slots s.stack
    stack := []
    pairs := rowsMap (fun _ p => { p with relay := p.relay.cancel }) s.pairs
    link := s.link.teardown
    out := s.out.teardown
    mgmt := s.mgmt.teardown
    cuts := s.cutTrunk }

/-! ## Relay frames (R144, R145) -/

/-- The outcome of a relay frame of pair `k`: a RELAY_DONE in its reservation, an absorbed count when the
reservation was cancelled, nothing when no confirmation was asked (R145). -/
def relayOutcome (k : PairId) (outcome : RelayOutcome) (f : RelayFrame) (s : State) : State :=
  match f.confirm with
  | none => s
  | some .reserved => placeReply (.relayDone ⟨f.tag, evenLane k, outcome⟩) s
  | some .cancelled => countAbsorbed s

/-- The outcomes of frames removed together, in order (R144). -/
def relayOutcomes (k : PairId) (outcome : RelayOutcome) (fs : List RelayFrame) (s : State) : State :=
  fs.foldl (fun s f => relayOutcome k outcome f s) s

/-- The disposal of a pair's relay frames at its disable: the frame in transmission is ABANDONED, then
the queued frames are DISCARDED, oldest first, and the transmitter is IDLE and empty; its line finishes the
character in progress (R144, R204). -/
def disposeRelay (k : PairId) (s : State) : State :=
  let relay := s.pairs[k].relay
  relayOutcomes k .discarded relay.queue
    (relayOutcomes k .abandoned relay.sending.toList
      { s.setPair k { s.pairs[k] with relay := RelayTransmitter.reset } with cuts := s.cutRelay k })

/-! ## Long map operations (R95, R97, R190) -/

/-- The operation code of a long map operation's request (R201). -/
def LongOp.requestCode (o : LongOp) : Byte :=
  match o with
  | .none => 0#8
  | .copyActive => Operation.copyActive.code
  | .commit => Operation.commit.code

/-- A cache entry after the end of the long map operation with this reply: its IN_PROGRESS entry becomes
DONE (R190). -/
def CacheEntry.finish (r : Reply) (e : CacheEntry) : CacheEntry :=
  if e.tag = r.tag ∧ e.op = r.op ∧ e.reply = none then { e with reply := some r } else e

/-- The end of a long map operation: the tracker returns to NONE and the reservation ends; if the reply
is owed it is placed, and its cache entry, if still there, becomes DONE (R95, R97, R190). -/
def endLongOp (status : Status) (results : List Byte) (s : State) : State :=
  let tracker := s.mgmt.tracker
  let reply : Reply := ⟨tracker.tag, tracker.operation.requestCode, status, results⟩
  if tracker.replyOwed then
    placeReply (.reply reply)
      { s with
        mgmt :=
          { s.mgmt with
            cache := s.mgmt.cache.map (CacheEntry.finish reply)
            tracker := Tracker.idle
            reservation := false } }
  else { s with mgmt := { s.mgmt with tracker := Tracker.idle, reservation := false } }

/-! ## Integrity marks (R14, R16) -/

/-- Mark an active point entry faulted: its record becomes UNKNOWN with no votes and a stopped timer, and
MAP_INTEGRITY is raised (R14). -/
def faultPoint (p : PointId) (s : State) : State :=
  let bank := s.map.activeBank
  let marked := s.map.setActiveBank (bank.setPoint p { bank.points[p] with mark := true })
  raiseDevice .mapIntegrity
    ((s.setMap marked).setRecord p { s.records[p] with condition := .unknown, vote := 0, timer := none })

/-- Mark an active group entry faulted: its period timer stops and MAP_INTEGRITY is raised (R16). -/
def faultGroup (g : GroupId) (s : State) : State :=
  let bank := s.map.activeBank
  let marked := s.map.setActiveBank (bank.setGroup g { bank.groups[g] with mark := true })
  raiseDevice .mapIntegrity ((s.setMap marked).setPeriodTimer g none)

end Sys2Proof.Machine
end

