-- ==== Sys2Proof/Machine/Alerts.lean ====
section
/-! DEFINITION. The Alert Delivery Unit (chapter 4): selection and capture, the acknowledgement timer's
expiry with its repeat or lapse, and owed repeats. -/

namespace Sys2Proof.Machine

/-- The ALERT message of a record, first or repeat (R72). -/
def InService.alert (r : InService) : Message :=
  .alert
    { number := r.number, slot := r.slot, level := r.level, repeatCount := r.repeatCount,
      captureTime := r.captureTime, overflow := r.overflow, causes := r.causes }

/-- Rewrite the records with this alert number (at most one, R68). -/
def updateRecord (number : AlertNumber) (change : InService → InService) (stack : List InService) :
    List InService :=
  stack.map (fun r => if r.number = number then change r else r)

/-- The first number, counting upward from `n` modulo 256 for at most `steps` steps, that no record in
the stack holds (R68). -/
def freeNumber (stack : List InService) (steps : Nat) (n : AlertNumber) : AlertNumber :=
  match steps with
  | 0 => n
  | steps + 1 => if stack.any (fun r => r.number == n) then freeNumber stack steps (n + 1) else n

/-- The number the next capture takes (R68): with at most three other records in the stack it is found
within four steps. -/
def State.nextNumber (s : State) : AlertNumber := freeNumber s.stack s.stack.length s.alertCounter

/-- The slot a selection chooses now, if the three conditions of R69 hold: the link ACTIVE, an Alert queue
entry free that no REPEAT_OWED record claims, and a selectable slot (R69, R78). -/
def State.selection (s : State) : Option SlotId :=
  if s.link.state = .active ∧ s.out.alertFree > 0 ∧ owedCount s.stack = 0 then
    bestSlot s.stack s.slots
  else none

/-- The record a capture of slot `k` pushes (R71). -/
def State.captured (s : State) (k : SlotId) : InService :=
  { number := s.nextNumber
    slot := k
    level := s.slots[k].level
    causes := s.slots[k].causes
    overflow := s.slots[k].overflow
    captureTime := s.deviceTime
    repeatCount := 0
    state := .queued
    timer := none }

/-- The capture of slot `k`: its causes move into a new record on top of the stack, the counter moves on,
and the record's ALERT is placed (R57, R68, R71). -/
def captureSlot (k : SlotId) (s : State) : State :=
  let r := s.captured k
  placeAlert r.alert
    { s.setSlot k { s.slots[k] with causes := [], overflow := false } with
      stack := s.stack ++ [r]
      alertCounter := r.number + 1 }

/-- The event of a selection and its capture; with nothing to select no capture takes place (R69 to
R71). -/
def captureEvent (s : State) : State :=
  match s.selection with
  | none => s
  | some k => captureSlot k s

/-- CAPTURE (R71). -/
def execCapture (s : State) : Host.Outcome State Fault Refusal :=
  running captureEvent s

/-- A record repeated: one more repeat, the timer stopped, in the state its message gives it (R77). -/
def InService.again (r : InService) (state : RecordState) : InService :=
  { r with repeatCount := r.repeatCount + 1, timer := none, state := state }

/-- The repeat of an AWAITING record: placed if an Alert queue entry is free that no other REPEAT_OWED
record claims, otherwise owed (R77). -/
def repeatRecord (r : InService) (s : State) : State :=
  if owedCount s.stack < s.out.alertFree then
    placeAlert (r.again .queued).alert
      (s.setStack (updateRecord r.number (fun r => r.again .queued) s.stack))
  else s.setStack (updateRecord r.number (fun r => r.again .repeatOwed) s.stack)

/-- The LAPSE of a record at a device time (R79). -/
def InService.lapse (r : InService) (now : Time) : Message :=
  .lapse { number := r.number, slot := r.slot, level := r.level, repeatCount := r.repeatCount, time := now }

/-- The lapse of a record: it leaves the stack with its causes, its LAPSE is placed or counted as not
sent, and ALERT_LAPSE is raised (R79). -/
def lapseRecord (r : InService) (s : State) : State :=
  let removed := s.setStack (s.stack.filter (fun x => x.number != r.number))
  let noticed :=
    if s.out.alertFree > 0 then placeAlert (r.lapse s.deviceTime) removed
    else removed.setOut { s.out with lapseNotSent := s.out.lapseNotSent + 1 }
  raiseDevice .alertLapse noticed

/-- The record with this number that is AWAITING and whose acknowledgement timer has reached its expiry. -/
def State.expiredRecord (s : State) (number : AlertNumber) : Option InService :=
  s.stack.find? (fun r => r.number == number && r.state == .awaiting && timerDue s.deviceTime r.timer)

/-- The event of an acknowledgement timer's expiry: a repeat below the retry limit, otherwise a lapse
(R77, R79, R80). -/
def acknowledgementTimerExpiryEvent (number : AlertNumber) (s : State) : State :=
  match s.expiredRecord number with
  | none => s
  | some r =>
    if r.repeatCount < s.link.params.retryLimit then repeatRecord r s else lapseRecord r s

/-- ACKNOWLEDGEMENT_TIMER_EXPIRY (R77). -/
def execAcknowledgementTimerExpiry (number : AlertNumber) (s : State) :
    Host.Outcome State Fault Refusal :=
  running (acknowledgementTimerExpiryEvent number) s

/-- The REPEAT_OWED record nearest the top of the stack (R78). -/
def State.owedRecord (s : State) : Option InService :=
  s.stack.reverse.find? (fun r => r.state == .repeatOwed)

/-- The event of an owed repeat taking a free Alert queue entry (R78). -/
def owedRepeatPlacementEvent (s : State) : State :=
  match s.owedRecord with
  | none => s
  | some r =>
    if s.out.alertFree > 0 then
      placeAlert r.alert
        (s.setStack (updateRecord r.number (fun r => { r with state := .queued }) s.stack))
    else s

/-- OWED_REPEAT_PLACEMENT (R78). -/
def execOwedRepeatPlacement (s : State) : Host.Outcome State Fault Refusal :=
  running owedRepeatPlacementEvent s

end Sys2Proof.Machine
end

