-- ==== Sys2Proof/Machine/Reports.lean ====
section
/-! DEFINITION. Group reports (chapter 6): assembly, and the expiry of a period timer. -/

namespace Sys2Proof.Machine

/-- The age a report shows for a last sample time: the time since it modulo 2^32, at most 65535 (R112). -/
def reportAge (now : Time) (t : Time) : Nat := min (now - t).toNat 65535

/-- A member entry from the member's active entry and runtime record (R112). -/
def reportMember (s : State) (p : PointId) : ReportMember :=
  let r := s.records[p]
  if pointUsable (s.activePoint p) then
    { point := p, condition := some r.condition, lastValue := r.lastValue,
      age := r.lastSampleTime.map (reportAge s.deviceTime) }
  else { point := p, condition := none, lastValue := none, age := none }

/-- The members of a group: point ids start to start + length − 1 (R7). -/
def groupMembers (e : GroupEntry) : List PointId :=
  (List.range e.length).map (fun i => Fin.ofNat 256 (e.start.val + i))

/-- The REPORT of a group, built from the active bank and the Condition Table in one event (R110,
R111). -/
def buildReport (s : State) (g : GroupId) (e : GroupEntry) (origin : Origin) (tag : Option Tag) :
    Message :=
  .report
    { group := g, origin := origin, tag := tag, generation := s.map.generation, time := s.deviceTime,
      members := (groupMembers e).map (reportMember s) }

/-- The assembly of a group's report on a timer or on a sample: a marked group builds nothing; a group
found disagreeing is marked; an OFF group builds nothing; otherwise the report is offered to the Data
queue (R16, R110, R113). -/
def assembleReport (g : GroupId) (origin : Origin) (s : State) : State :=
  let stored := s.activeGroup g
  if stored.mark then s
  else if !groupAgrees stored then faultGroup g s
  else if stored.entry.trigger = .off then s
  else offerData (buildReport s g stored.entry origin none) s

/-- The period timer a start at `now` gives an entry (R114). -/
def periodStart (now : Time) (e : GroupEntry) : Timer := startTimer now (e.period * Config.tenth)

/-- The event of a period timer's expiry: the PERIODIC report, then the timer starts again from the
expiry while the group's active entry is PERIODIC, unmarked and in agreement with its code (R114). -/
def periodTimerExpiryEvent (g : GroupId) (s : State) : State :=
  if timerDue s.deviceTime s.periodTimers[g] then
    let stored := s.activeGroup g
    let again :=
      if !stored.mark && groupAgrees stored && stored.entry.trigger == .periodic then
        some (periodStart s.deviceTime stored.entry)
      else none
    assembleReport g .periodic (s.setPeriodTimer g again)
  else s

/-- PERIOD_TIMER_EXPIRY (R114). -/
def execPeriodTimerExpiry (g : GroupId) (s : State) : Host.Outcome State Fault Refusal :=
  running (periodTimerExpiryEvent g) s

end Sys2Proof.Machine
end

