-- ==== Sys2Proof/Machine/Classifier.lean ====
section
/-! DEFINITION. The Classifier and the Condition Table (chapter 2): taking a frame, the eight stages of
one sample, and the stale expiry. -/

namespace Sys2Proof.Machine

/-! ## Stage 1: lookup (R13, R14, R32, R33) -/

/-- The point id a key resolves to in the key index (R13). -/
def keyLookup (index : List KeyRow) (key : Key) : Option PointId :=
  (index.find? (fun row => row.key == key)).map (fun row => row.point)

/-- A lookup: the state after it, and the point id and entry of a match (R13). An entry that disagrees
with its code is marked faulted and answered with no match (R14). -/
def lookup (key : Key) (s : State) : State × Option (PointId × PointEntry) :=
  match keyLookup s.map.keyIndex key with
  | none => (s, none)
  | some p =>
    let stored := s.activePoint p
    if stored.mark then (s, none)
    else if pointAgrees stored then (s, some (p, stored.entry))
    else (faultPoint p s, none)

/-- An unmatched sample: the lane's unmatched counter increments, and under FORWARD_UNMATCHED an
UNMATCHED message is offered (R32, R33). -/
def unmatchedSample (key : Key) (f : Frame) (r : Reading) (s : State) : State :=
  let lane := s.lanes[key.lane]
  let counted := s.setLane key.lane
    { lane with counters := { lane.counters with unmatched := lane.counters.unmatched + 1 } }
  match lane.settings.unmatched with
  | .discard => counted
  | .forwardUnmatched => offerData (.unmatched ⟨key, f.sequence, r, f.arrival⟩) counted

/-! ## Stages 3 to 5: the condition machine (R35 to R40) -/

/-- Whether a value lies within the window, bounds included, on true integers (R3, R38). -/
def inWindow (e : PointEntry) (v : Value) : Bool :=
  e.lower.toInt ≤ v.toInt && v.toInt ≤ e.upper.toInt

/-- Whether a value lies on the abnormal side of the plain window (R38). -/
def abnormalSide (e : PointEntry) (v : Value) : Bool :=
  match e.sense with
  | .insideNormal => !inWindow e v
  | .outsideNormal => inWindow e v

/-- Whether a value votes for a return to NORMAL, with the hysteresis applied on true integers (R40). -/
def returnSide (e : PointEntry) (v : Value) : Bool :=
  let h : Int := e.hysteresis
  match e.sense with
  | .insideNormal => e.lower.toInt + h ≤ v.toInt && v.toInt ≤ e.upper.toInt - h
  | .outsideNormal => v.toInt < e.lower.toInt - h || e.upper.toInt + h < v.toInt

/-- The condition and the vote count a fresh sample's window evaluation gives (R37 to R40). -/
def evaluate (e : PointEntry) (c : Condition) (vote : Nat) (v : Value) : Condition × Nat :=
  match c with
  | .normal =>
    if abnormalSide e v then
      if e.qualify ≤ vote + 1 then (.abnormal, 0) else (.normal, vote + 1)
    else (.normal, 0)
  | .abnormal =>
    if returnSide e v then
      if e.qualify ≤ vote + 1 then (.normal, 0) else (.abnormal, vote + 1)
    else (.abnormal, 0)
  | _ => if abnormalSide e v then (.abnormal, 0) else (.normal, 0)

/-- The record after stages 3 to 5: HELD leaves it, FAULT makes it FAULTED, a fresh sample is evaluated;
`restart` is the stale timer a restart gives a condition, if it qualifies (R27, R35 to R37). -/
def conditionStage (e : PointEntry) (arrival : Time) (restart : Condition → Option Timer)
    (x : Reading) (r : RuntimeRecord) : RuntimeRecord :=
  if x.held then r
  else if x.fault then
    { r with condition := .faulted, vote := 0, lastSampleTime := some arrival,
             timer := (restart .faulted).or r.timer }
  else
    let judged := evaluate e r.condition r.vote x.value
    { r with condition := judged.1, vote := judged.2, lastValue := some x.value,
             lastSampleTime := some arrival, timer := (restart judged.1).or r.timer }

/-! ## Stage 2: sequence (R34) -/

/-- Whether the sample is a duplicate: its sequence equals the last one (R34). -/
def isDuplicate (r : RuntimeRecord) (q : Sequence) : Bool := r.lastSequence == some q

/-- Whether the sample's sequence leaves a gap: it differs from the last one and from its successor
modulo 64 (R34). -/
def isGap (r : RuntimeRecord) (q : Sequence) : Bool :=
  match r.lastSequence with
  | none => false
  | some last => q != last && q != last + 1

/-- The record after stage 2 for a sample that is no duplicate (R34). -/
def sequenceStage (q : Sequence) (r : RuntimeRecord) : RuntimeRecord :=
  { r with lastSequence := some q, samples := r.samples + 1,
           gaps := if isGap r q then r.gaps + 1 else r.gaps }

/-! ## Stages 6 and 7: raises and forwarding (R41 to R43) -/

/-- Whether the entry into a condition raises the point's cause (R41). -/
def raisesOnEntry (e : PointEntry) (old new : Condition) : Bool :=
  if old = new then false
  else
    match new with
    | .abnormal => e.raiseOn.abnormal
    | .normal => old != .unknown && e.raiseOn.normalReturn
    | .faulted => e.raiseOn.fault
    | _ => false

/-- Whether the policy builds a DATA message for an accepted sample (R42). -/
def forwards (e : PointEntry) (changed : Bool) (lastForwarded : Option Value) (x : Reading) : Bool :=
  match e.policy with
  | .absorb => false
  | .always => true
  | .transition => changed
  | .deadband =>
    changed ||
    match lastForwarded with
    | none => true
    | some v => !x.held && !x.fault && e.deadband ≤ (x.value.toInt - v.toInt).natAbs

/-- Stage 7: offer the DATA message the policy builds; once it is placed, last forwarded value is the
value it carries (R42 to R44). -/
def forwardStage (p : PointId) (e : PointEntry) (changed : Bool) (f : Frame) (x : Reading) (s : State) :
    State :=
  let r := s.records[p]
  if forwards e changed r.lastForwarded x then
    let message := Message.data ⟨p, r.condition, changed, x, f.sequence, f.arrival⟩
    if s.dataAccepts then
      placeData message (s.setRecord p { r with lastForwarded := some x.value })
    else offerData message s
  else s

/-! ## Stage 8: group triggers (R45, R116) -/

/-- Whether an accepted sample of a point starts a group's report (R45). -/
def sampleTriggers (s : State) (p : PointId) (g : GroupId) : Bool :=
  let stored := s.activeGroup g
  stored.entry.trigger == .onSample && !stored.mark &&
    stored.entry.start.val + stored.entry.triggerMember == p.val

/-- Stage 8: the reports of the ON_SAMPLE groups of the point, in ascending group number (R45, R116). -/
def groupStage (p : PointId) (s : State) : State :=
  (allFin 16).foldl (fun s g => if sampleTriggers s p g then assembleReport g .onSample s else s) s

/-! ## One sample and one frame (R21 to R23, R31) -/

/-- Stages 2 to 8 of a matched sample (R31). -/
def matchedSample (p : PointId) (e : PointEntry) (f : Frame) (x : Reading) (s : State) : State :=
  let r := s.records[p]
  if isDuplicate r f.sequence then s.setRecord p { r with duplicates := r.duplicates + 1 }
  else
    let restart := staleStart s (s.activePoint p)
    let r' := conditionStage e f.arrival restart x (sequenceStage f.sequence r)
    let recorded := s.setRecord p r'
    let raised :=
      if raisesOnEntry e r.condition r'.condition then raiseInto e.slot (.point p) recorded else recorded
    groupStage p (forwardStage p e (r'.condition != r.condition) f x raised)

/-- One sample through the stages (R31). A lookup that marks an entry does so whole, its raise of MAP_INTEGRITY
included, before the unmatched sample is forwarded, which may raise DATA_LOSS (R14, R32; the order of the two
raises is a DESIGN CHOICE, notes/assumptions/20.md). -/
def processSample (lane : LaneId) (f : Frame) (i : Nat) (x : Reading) (s : State) : State :=
  let key : Key := ⟨lane, f.node, Fin.ofNat 16 (f.startIndex.val + i)⟩
  match lookup key s with
  | (s', none) => unmatchedSample key f x s'
  | (s', some (p, e)) => matchedSample p e f x s'

/-- The samples of a frame from position `i` on, in ascending point index (R22). -/
def processSamples (lane : LaneId) (f : Frame) (i : Nat) (xs : List Reading) (s : State) : State :=
  match xs with
  | [] => s
  | x :: rest => processSamples lane f (i + 1) rest (processSample lane f i x s)

/-- The lane whose FIFO the Classifier serves next: the first that holds a frame among p+1 to p+8 modulo
8, p being the lane service pointer (R21). -/
def nextLane (s : State) : Option LaneId :=
  (List.range 8).findSome? fun d =>
    let lane : LaneId := Fin.ofNat 8 (s.servicePointer.val + 1 + d)
    if s.lanes[lane].fifo.isEmpty then none else some lane

/-- The event of a frame taken: the oldest frame of the next non-empty FIFO leaves it, the pointer names
its lane, and every sample is processed (R21, R22). With all FIFOs empty no frame is taken. -/
def frameTakenEvent (s : State) : State :=
  match nextLane s with
  | none => s
  | some lane =>
    match s.lanes[lane].fifo with
    | [] => s
    | f :: rest =>
      processSamples lane f 0 f.readings
        { s.setLane lane { s.lanes[lane] with fifo := rest } with servicePointer := lane }

/-- FRAME_TAKEN (R22). -/
def execFrameTaken (s : State) : Host.Outcome State Fault Refusal :=
  running frameTakenEvent s

/-! ## The stale expiry (R46) -/

/-- The event of a stale expiry: the timer stops, the votes clear, the point goes STALE, and STALE raises
the point's cause if it is selected (R46). -/
def staleExpiryEvent (p : PointId) (s : State) : State :=
  let r := s.records[p]
  if timerDue s.deviceTime r.timer then
    let e := (s.activePoint p).entry
    let stale := s.setRecord p { r with condition := .stale, vote := 0, timer := none }
    if r.condition ≠ .stale ∧ e.raiseOn.stale then raiseInto e.slot (.point p) stale else stale
  else s

/-- STALE_EXPIRY (R46). -/
def execStaleExpiry (p : PointId) (s : State) : Host.Outcome State Fault Refusal :=
  running (staleExpiryEvent p) s

end Sys2Proof.Machine
end

