-- ==== Sys2Proof/Machine/Lanes.lean ====
section
/-! DEFINITION. The field lanes (chapter 7): frame begin and frame end, suspension and holdoff, the
enable and disable of a lane or a JOINED pair, and the Relay Transmitters. -/

namespace Sys2Proof.Machine

/-! ## Frames on a lane (R126 to R132) -/

/-- A lane at a start delimiter: in HUNT a frame begins and the lane enters RECEIVING; in SUSPENDED a
frame begins if none is in progress; otherwise the character is no beginning (R126). -/
def Lane.begin (x : Lane) : Lane :=
  match x.state with
  | .hunt => { x with state := .receiving, frame := some [] }
  | .suspended => if x.frame.isNone then { x with frame := some [] } else x
  | .disabled => x
  | .receiving => x

/-- The event of a start delimiter on a lane; the even lane of a JOINED pair takes no character (R126,
R139). -/
def laneFrameBeginEvent (l : LaneId) (s : State) : State :=
  if s.transmitting l then s else s.setLane l s.lanes[l].begin

/-- LANE_FRAME_BEGIN (R126). -/
def execLaneFrameBegin (l : LaneId) (s : State) : Host.Outcome State Fault Refusal :=
  running (laneFrameBeginEvent l) s

/-- A lane at the end of a frame in SUSPENDED: a suspended drop, judged by nothing; with holdoff elapsed
the lane enters HUNT with the count 0 (R131, R132). -/
def Lane.drop (x : Lane) : Lane :=
  let counted :=
    { x with
      frame := none
      counters :=
        { x.counters with
          framesEnded := x.counters.framesEnded + 1
          suspendedDrops := x.counters.suspendedDrops + 1 } }
  if x.holdoffElapsed then { counted with state := .hunt, errors := 0, holdoffElapsed := false }
  else counted

/-- The counters after a frame end of this error class in RECEIVING (R130, R133); a good frame counts
none. -/
def LaneCounters.countError (c : LaneCounters) (v : FrameVerdict) : LaneCounters :=
  match v with
  | .good _ => c
  | .lineError => { c with framesEnded := c.framesEnded + 1, lineErrors := c.lineErrors + 1 }
  | .checkError => { c with framesEnded := c.framesEnded + 1, checkErrors := c.checkErrors + 1 }
  | .formatError => { c with framesEnded := c.framesEnded + 1, formatErrors := c.formatErrors + 1 }

/-- A lane at the end of a good frame in RECEIVING: accepted into the FIFO, or an overrun (R129). -/
def Lane.accept (x : Lane) (f : Frame) : Lane :=
  if x.fifo.length < Config.fifoCapacity then
    { x with
      state := .hunt
      frame := none
      errors := 0
      fifo := x.fifo ++ [f]
      counters :=
        { x.counters with
          framesEnded := x.counters.framesEnded + 1
          accepted := x.counters.accepted + 1 } }
  else
    { x with
      state := .hunt
      frame := none
      counters :=
        { x.counters with
          framesEnded := x.counters.framesEnded + 1
          overruns := x.counters.overruns + 1 } }

/-- Whether an error in RECEIVING brings the consecutive-error count to the threshold (R130). -/
def Lane.reachesThreshold (x : Lane) : Bool := x.errors + 1 == x.settings.threshold

/-- A lane at the end of a frame in error in RECEIVING: the count and the class counter increment, and at
the threshold the lane is SUSPENDED with its holdoff timer started (R130). -/
def Lane.error (x : Lane) (now : Time) (v : FrameVerdict) : Lane :=
  let counted :=
    { x with frame := none, errors := x.errors + 1, counters := x.counters.countError v }
  if x.reachesThreshold then
    { counted with
      state := .suspended
      holdoffTimer := some (startTimer now (x.settings.holdoff * Config.tenth))
      holdoffElapsed := false }
  else { counted with state := .hunt }

/-- The event of a frame end (R127 to R132). The characters of the frame are those its lane holds and
those the end brings; characters that do not agree with the way the frame ended are no frame end. -/
def frameEndEvent (l : LaneId) (cause : FrameEndCause) (chars : List Byte) (s : State) : State :=
  let x := s.lanes[l]
  match x.frame with
  | none => s
  | some held =>
    let whole := held ++ chars
    if !frameCharsAgree cause whole then s
    else
      match x.state with
      | .suspended => s.setLane l x.drop
      | .receiving =>
        match frameVerdict cause s.deviceTime whole with
        | .good f => s.setLane l (x.accept f)
        | v =>
          let ended := s.setLane l (x.error s.deviceTime v)
          if x.reachesThreshold then raiseDevice (.laneSuspended l) ended else ended
      | .disabled => s
      | .hunt => s

/-- FRAME_END (R127). -/
def execFrameEnd (l : LaneId) (cause : FrameEndCause) (chars : List Byte) (s : State) :
    Host.Outcome State Fault Refusal :=
  running (frameEndEvent l cause chars) s

/-- A lane at its holdoff expiry: HUNT with the count 0 when no frame is in progress, otherwise holdoff
elapsed (R132). -/
def Lane.holdoffEnd (x : Lane) : Lane :=
  match x.frame with
  | none => { x with holdoffTimer := none, state := .hunt, errors := 0 }
  | some _ => { x with holdoffTimer := none, holdoffElapsed := true }

/-- The event of a holdoff expiry (R132); no expiry occurs while the timer is stopped or runs on. -/
def holdoffExpiryEvent (l : LaneId) (s : State) : State :=
  if timerDue s.deviceTime s.lanes[l].holdoffTimer then s.setLane l s.lanes[l].holdoffEnd else s

/-- HOLDOFF_EXPIRY (R132). -/
def execHoldoffExpiry (l : LaneId) (s : State) : Host.Outcome State Fault Refusal :=
  running (holdoffExpiryEvent l) s

/-! ## Enable and disable (R28, R29, R136, R137) -/

/-- A lane record at its enable (R136). -/
def Lane.enable (x : Lane) : Lane :=
  { settings := x.settings, state := .hunt, frame := none, holdoffElapsed := false, errors := 0,
    holdoffTimer := none, fifo := [], counters := LaneCounters.zero }

/-- A lane record at its disable: the settings and the eight counters are kept (R137). -/
def Lane.disable (x : Lane) : Lane :=
  { settings := x.settings, state := .disabled, frame := none, holdoffElapsed := false, errors := 0,
    holdoffTimer := none, fifo := [], counters := x.counters }

/-- The lanes that an enable or a disable of lane `l` reaches: both of a JOINED pair, lowest first,
otherwise the lane alone (R123, R124). -/
def State.reached (s : State) (l : LaneId) : List LaneId :=
  if s.joined l then [evenLane (pairOf l), oddLane (pairOf l)] else [l]

/-- Apply a change to the lane records an enable or a disable of lane `l` reaches. -/
def State.mapReached (s : State) (l : LaneId) (change : Lane → Lane) : State :=
  (s.reached l).foldl (fun s i => s.setLane i (change s.lanes[i])) s

/-- The start of the stale timers at lane `l`'s becoming listening: each point whose active entry is
valid, unmarked, keyed to the lane and has a stale limit above 0 (R28). -/
def startLaneTimers (l : LaneId) (s : State) : State :=
  { s with
    records :=
      rowsMap
        (fun p r =>
          let e := s.activePoint p
          if pointUsable e ∧ e.entry.lane = l then
            { r with timer := (staleStart s e r.condition).or r.timer }
          else r)
        s.records }

/-- A runtime record at the disable of its lane: UNKNOWN, no votes, the timer stopped, the last sequence
absent (R29). -/
def RuntimeRecord.laneDisabled (r : RuntimeRecord) : RuntimeRecord :=
  { r with condition := .unknown, vote := 0, timer := none, lastSequence := none }

/-- The points keyed to lane `l` in the active bank at the lane's disable (R29, notes/assumptions/7.md). -/
def clearLanePoints (l : LaneId) (s : State) : State :=
  { s with
    records :=
      rowsMap
        (fun p r =>
          let e := (s.activePoint p).entry
          if e.valid ∧ e.lane = l then r.laneDisabled else r)
        s.records }

/-- The enable of lane `l`, or of its whole JOINED pair (R28, R136). -/
def enableLane (l : LaneId) (s : State) : State :=
  let opened := s.mapReached l Lane.enable
  let ready :=
    if s.joined l then
      opened.setPair (pairOf l) { s.pairs[pairOf l] with relay := RelayTransmitter.reset }
    else opened
  (s.reached l).foldl (fun s i => startLaneTimers i s) ready

/-- The disable of lane `l`, or of its whole JOINED pair, with its relay frames disposed of (R29, R137,
R144). -/
def disableLane (l : LaneId) (s : State) : State :=
  let closed := (s.reached l).foldl (fun s i => clearLanePoints i s) (s.mapReached l Lane.disable)
  if s.joined l then disposeRelay (pairOf l) closed else closed

/-! ## Relay transmission (R140, R143) -/

/-- Whether a pair's Relay Transmitter works: the pair is JOINED and enabled (R140). -/
def State.relayWorks (s : State) (k : PairId) : Bool :=
  s.pairs[k].mode == .joined && s.lanes[evenLane k].enabled

/-- The event of a relay transmission start: the IDLE transmitter takes the oldest queued frame (R140,
R143). A start finds the line's earlier character finished (R204, notes/assumptions/25.md). -/
def relayTransmissionStartEvent (k : PairId) (s : State) : State :=
  let relay := s.pairs[k].relay
  match s.relayWorks k, relay.state, relay.queue with
  | true, .idle, f :: rest =>
    { s.setPair k { s.pairs[k] with relay := { state := .sending, sending := some f, queue := rest } } with
      cuts := { s.cuts with relays := rowSet s.cuts.relays k none } }
  | _, _, _ => s

/-- RELAY_TRANSMISSION_START (R143). -/
def execRelayTransmissionStart (k : PairId) (s : State) : Host.Outcome State Fault Refusal :=
  running (relayTransmissionStartEvent k) s

/-- The event of a relay transmission completion: the frame is SENT, its RELAY_DONE is handled, and the
transmitter enters GAP (R143, R145). -/
def relayTransmissionCompletionEvent (k : PairId) (s : State) : State :=
  let relay := s.pairs[k].relay
  match relay.state, relay.sending with
  | .sending, some f =>
    relayOutcome k .sent f
      (s.setPair k { s.pairs[k] with relay := { relay with state := .gap, sending := none } })
  | _, _ => s

/-- RELAY_TRANSMISSION_COMPLETION (R143). -/
def execRelayTransmissionCompletion (k : PairId) (s : State) : Host.Outcome State Fault Refusal :=
  running (relayTransmissionCompletionEvent k) s

/-- The event of the end of the gap after a COMMAND frame: the transmitter becomes IDLE (R143). -/
def gapEndEvent (k : PairId) (s : State) : State :=
  let relay := s.pairs[k].relay
  match relay.state with
  | .gap => s.setPair k { s.pairs[k] with relay := { relay with state := .idle } }
  | .idle => s
  | .sending => s

/-- GAP_END (R143). -/
def execGapEnd (k : PairId) (s : State) : Host.Outcome State Fault Refusal :=
  running (gapEndEvent k) s

end Sys2Proof.Machine
end

