-- ==== Sys2Proof/Machine/Requests.lean ====
section
/-! DEFINITION. The Management Unit (chapter 10): the take of a request, the reply cache, the first three
tests of R192, and the two takes that name no operation. -/

namespace Sys2Proof.Machine

/-! ## Replies -/

/-- A status with its results (R186). -/
structure Answer where
  status : Status
  results : List Byte
  deriving DecidableEq, Repr

/-- What executing a request leaves: the state, and its answer, or none when a long map operation
starts, whose reply comes at its end (R190). -/
structure Execution where
  state : State
  answer : Option Answer
  deriving DecidableEq, Repr

/-- An OK answer. -/
def answerOk (results : List Byte) (s : State) : Execution := ⟨s, some ⟨.ok, results⟩⟩

/-- A refusal, which changes no state unless its owning rule names a change (R186). -/
def refuse (status : Status) (results : List Byte) (s : State) : Execution :=
  ⟨s, some ⟨status, results⟩⟩

/-- BAD_VALUE naming a field by its number (R186, R198). -/
def badValue (field : Nat) (s : State) : Execution := refuse .badValue (u8 field) s

/-- BAD_INDEX carrying the index operand as received (R186). -/
def badIndex (index : Byte) (s : State) : Execution := refuse .badIndex [index] s

/-! ## Tests 2 and 3 of R192 -/

/-- Whether the operands have the length the operation requires; for RELAY, four bytes and as many
payload bytes as the fourth says (R192 test 2, R201). -/
def operandsFit (o : Operation) (operands : List Byte) : Bool :=
  match o with
  | .readPoint => operands.length == 2
  | .writePoint => operands.length == 20
  | .readGroup => operands.length == 2
  | .writeGroup => operands.length == 7
  | .clearShadow => operands.length == 0
  | .copyActive => operands.length == 0
  | .commit => operands.length == 2
  | .readCondition => operands.length == 2
  | .setSlot => operands.length == 3
  | .readSlot => operands.length == 1
  | .clearSlot => operands.length == 1
  | .setRoute => operands.length == 2
  | .alertDone => operands.length == 1
  | .readStack => operands.length == 0
  | .setLane => operands.length == 6
  | .readLane => operands.length == 1
  | .clearLaneCounters => operands.length == 1
  | .setPair => operands.length == 2
  | .relay => 4 ≤ operands.length && operands.length == 4 + numAt operands 3
  | .triggerGroup => operands.length == 1
  | .setTrunk => operands.length == 6
  | .enterDormant => operands.length == 0
  | .readDevice => operands.length == 0
  | .restart => operands.length == 0

/-- The seven operations that name the map (R96, R192). -/
def namesMap (o : Operation) : Bool :=
  o ∈ [Operation.readPoint, .writePoint, .readGroup, .writeGroup, .clearShadow, .copyActive, .commit]

/-- The results of BUSY: the long map operation in flight and its phase (R96, R186). -/
def busyResults (t : Tracker) : List Byte := u8 t.operation.code ++ u8 t.phase.code

/-- Tests 2 and 3 of R192, then the operation's own checks and effect. A failure of test 2 carries the field
number 0 alone, for TRIGGER_GROUP too, whose group may be missing (DESIGN CHOICE, notes/assumptions/22.md). -/
def executeTested (o : Operation) (own : Tag → List Byte → State → Execution) (tag : Tag)
    (operands : List Byte) (s : State) : Execution :=
  if !operandsFit o operands then badValue 0 s
  else if namesMap o ∧ s.mgmt.tracker.operation ≠ .none then
    refuse .busy (busyResults s.mgmt.tracker) s
  else own tag operands s

/-! ## The reply cache (R188, R189) -/

/-- The cache entry that answers a tag and operation code, if there is one (R189). -/
def cacheHit (cache : List CacheEntry) (tag : Tag) (op : Byte) : Option CacheEntry :=
  cache.find? (fun e => e.tag == tag && e.op == op)

/-- The cache with room for a new entry under a tag: an entry of the same tag is removed, otherwise the
oldest of eight (R189). -/
def cacheRoom (cache : List CacheEntry) (tag : Tag) : List CacheEntry :=
  if cache.any (fun e => e.tag == tag) then cache.filter (fun e => e.tag != tag)
  else if cache.length < Config.cacheCapacity then cache
  else cache.tail

/-- Replace the reply cache. -/
def setCache (cache : List CacheEntry) (s : State) : State :=
  s.setMgmt { s.mgmt with cache := cache }

/-- Insert a cache entry as the newest (R189). -/
def cacheInsert (e : CacheEntry) (s : State) : State := setCache (s.mgmt.cache ++ [e]) s

/-- The end of the take of an executed request: its reply is placed and its cache entry is DONE with it,
or the entry is left IN_PROGRESS for a long map operation that started (R189, R190). -/
def closeTake (tag : Tag) (op : Byte) (x : Execution) : State :=
  match x.answer with
  | some a =>
    let reply : Reply := ⟨tag, op, a.status, a.results⟩
    placeReply (.reply reply) (cacheInsert ⟨tag, op, some reply⟩ x.state)
  | none => cacheInsert ⟨tag, op, none⟩ x.state

/-- The disposal of a request removed from the inbound queue: a copy of the cached reply, a discard while
the first is IN_PROGRESS, or execution (R189). -/
def disposeRequest (run : Tag → List Byte → State → Execution) (tag : Tag) (op : Byte)
    (operands : List Byte) (s : State) : State :=
  match cacheHit s.mgmt.cache tag op with
  | some e =>
    match e.reply with
    | some r => placeReply (.reply r) s
    | none => s
  | none => closeTake tag op (run tag operands (setCache (cacheRoom s.mgmt.cache tag) s))

/-- Replace the inbound queue. -/
def setInbound (inbound : List (List Byte)) (s : State) : State :=
  s.setLink { s.link with inbound := inbound }

/-- The take of the oldest request, when its operation code is one of those `names` holds of and the Reply
queue has a free entry; otherwise this take does not occur (R187). -/
def takeEvent (names : Byte → Bool) (run : Tag → List Byte → State → Execution) (s : State) : State :=
  match s.link.inbound with
  | (tag :: op :: operands) :: rest =>
    if names op ∧ s.replyFree > 0 then disposeRequest run tag op operands (setInbound rest s) else s
  | _ => s

/-- The take of a request of an operation, with its own checks and effect (R187, R189, R192). -/
def takeOperation (o : Operation) (own : Tag → List Byte → State → Execution) (s : State) :
    Host.Outcome State Fault Refusal :=
  running (takeEvent (fun op => op == o.code) (executeTested o own)) s

/-! ## Requests that name no operation (R185, R192) -/

/-- The event of a short request taken: removed, not answered, not cached, counted (R185). -/
def shortRequestEvent (s : State) : State :=
  match s.link.inbound with
  | payload :: rest =>
    if payload.length < 2 ∧ s.replyFree > 0 then
      (setInbound rest s).setMgmt { s.mgmt with shortRequests := s.mgmt.shortRequests + 1 }
    else s
  | [] => s

/-- SHORT_REQUEST (R185). -/
def execShortRequest (s : State) : Host.Outcome State Fault Refusal :=
  running shortRequestEvent s

/-- Whether an operation code names no operation: 0 and 25 to 255 (R192 test 1, R201). -/
def namesNoOperation (op : Byte) : Bool := op.toNat == 0 || 24 < op.toNat

/-- BAD_OP: the refusal of an operation code that names no operation (R186, R192). -/
def execBadOp (s : State) : Host.Outcome State Fault Refusal :=
  running (takeEvent namesNoOperation (fun _ _ s => refuse .badOp [] s)) s

end Sys2Proof.Machine
end

