-- ==== Sys2Proof/Machine/LaneRequests.lean ====
section
/-! DEFINITION. The lane, pair and relay requests (chapter 7). -/

namespace Sys2Proof.Machine

/-- The lane an operand names: 0..7 (R122). -/
def laneOf (b : Byte) : Option LaneId := if h : b.toNat < 8 then some ⟨b.toNat, h⟩ else none

/-- The pair an operand names: 0..3 (R125). -/
def pairNamed (b : Byte) : Option PairId := if h : b.toNat < 4 then some ⟨b.toNat, h⟩ else none

/-- A lane's five settings, the enable first (R121). -/
def laneSettingsField (x : Lane) : List Byte :=
  u8 (enableCode x.enabled) ++ u8 x.settings.bitRate.code ++ u8 x.settings.threshold ++
    u8 x.settings.holdoff ++ u8 x.settings.unmatched.code

/-! ## SET_LANE (R122, R123) -/

/-- Checks 2 to 6 of R122 on SET_LANE's operands, each with the field number its failure names. -/
def laneChecks (o : List Byte) : List (Bool × Nat) :=
  [((enumOf enables (byteAt o 1)).isSome, 2),
    ((enumOf bitRates (byteAt o 2)).isSome, 3),
    (1 ≤ numAt o 3 && numAt o 3 ≤ 15, 4),
    (1 ≤ numAt o 4 && numAt o 4 ≤ 255, 5),
    ((enumOf unmatchedOptions (byteAt o 5)).isSome, 6)]

/-- The settings SET_LANE's operands carry once checks 2 to 6 have passed. -/
def laneSettingsOf (o : List Byte) : LaneSettings :=
  { bitRate := (enumOf bitRates (byteAt o 2)).getD .r19200
    threshold := numAt o 3
    holdoff := numAt o 4
    unmatched := (enumOf unmatchedOptions (byteAt o 5)).getD .discard }

/-- Check 7 of R122: the first of the four settings in which an enabled lane's present settings differ from
the operands, by the operand's field number, bit rate 3 to unmatched option 6, as BAD_VALUE names it (DESIGN
CHOICE, notes/assumptions/23.md). -/
def settingsDiffer (present operands : LaneSettings) : Option Nat :=
  firstFailure
    [(present.bitRate == operands.bitRate, 3),
      (present.threshold == operands.threshold, 4),
      (present.holdoff == operands.holdoff, 5),
      (present.unmatched == operands.unmatched, 6)]

/-- The effect of a SET_LANE that passes R122 (R123). -/
def applySetLane (l : LaneId) (on : Bool) (settings : LaneSettings) (s : State) : State :=
  let x := s.lanes[l]
  if x.enabled then (if on then s else disableLane l s)
  else
    let written := s.setLane l { x with settings := settings }
    if on then enableLane l written else written

/-- The results of SET_LANE: the lane, its settings and state after the event, and the partner lane and its
state for a JOINED pair, absent otherwise (R123, R198). -/
def setLaneResults (l : LaneId) (s : State) : List Byte :=
  let x := s.lanes[l]
  let other := partner l
  u8 l.val ++ laneSettingsField x ++ u8 x.state.code ++
    optional 1 (if s.joined l then some (u8 other.val) else none) ++
    optional 1 (if s.joined l then some (u8 s.lanes[other].state.code) else none)

/-- SET_LANE's own checks and effect (R122, R123). -/
def setLaneOwn (_ : Tag) (operands : List Byte) (s : State) : Execution :=
  match laneOf (byteAt operands 0) with
  | none => badIndex (byteAt operands 0) s
  | some l =>
    match firstFailure (laneChecks operands) with
    | some field => badValue field s
    | none =>
      let settings := laneSettingsOf operands
      let differing := if s.lanes[l].enabled then settingsDiffer s.lanes[l].settings settings else none
      match differing with
      | some field => refuse .laneActive (u8 field) s
      | none =>
        let s' := applySetLane l ((enumOf enables (byteAt operands 1)).getD false) settings s
        answerOk (setLaneResults l s') s'

/-- SET_LANE (R123). -/
def execSetLane (s : State) : Host.Outcome State Fault Refusal := takeOperation .setLane setLaneOwn s

/-! ## READ_LANE and CLEAR_LANE_COUNTERS (R134, R135) -/

/-- The eight lane counters in the order of R133. -/
def LaneCounters.field (c : LaneCounters) : List Byte :=
  u32 c.framesEnded ++ u32 c.accepted ++ u32 c.lineErrors ++ u32 c.checkErrors ++
    u32 c.formatErrors ++ u32 c.overruns ++ u32 c.suspendedDrops ++ u32 c.unmatched

/-- The Relay Transmitter fields of READ_LANE: present for the even lane of a JOINED pair (R135, R198). -/
def relayFields (l : LaneId) (s : State) : List Byte :=
  let relay := s.pairs[pairOf l].relay
  let shown (n : Nat) := optional 1 (if s.transmitting l then some (u8 n) else none)
  shown relay.state.code ++ shown relay.queue.length ++ shown relay.reserved

/-- The results of READ_LANE (R135). -/
def readLaneResults (l : LaneId) (s : State) : List Byte :=
  let x := s.lanes[l]
  u8 l.val ++ laneSettingsField x ++ u8 s.pairs[pairOf l].mode.code ++
    optional 1 (if s.joined l then some (u8 (if isEven l then 0 else 1)) else none) ++
    u8 x.state.code ++ yesNo x.holdoffElapsed ++ u8 x.errors ++
    timerField s.deviceTime x.holdoffTimer ++ u8 x.fifo.length ++ x.counters.field ++ relayFields l s

/-- READ_LANE's own check; it changes nothing (R135). -/
def readLaneOwn (_ : Tag) (operands : List Byte) (s : State) : Execution :=
  match laneOf (byteAt operands 0) with
  | none => badIndex (byteAt operands 0) s
  | some l => answerOk (readLaneResults l s) s

/-- READ_LANE (R135). -/
def execReadLane (s : State) : Host.Outcome State Fault Refusal := takeOperation .readLane readLaneOwn s

/-- CLEAR_LANE_COUNTERS's own check and effect (R134). -/
def clearLaneCountersOwn (_ : Tag) (operands : List Byte) (s : State) : Execution :=
  match laneOf (byteAt operands 0) with
  | none => badIndex (byteAt operands 0) s
  | some l =>
    let x := s.lanes[l]
    answerOk (u8 l.val ++ x.counters.field) (s.setLane l { x with counters := LaneCounters.zero })

/-- CLEAR_LANE_COUNTERS (R134). -/
def execClearLaneCounters (s : State) : Host.Outcome State Fault Refusal :=
  takeOperation .clearLaneCounters clearLaneCountersOwn s

/-! ## SET_PAIR (R125) -/

/-- The first enabled lane of a pair (R125). -/
def firstEnabled (k : PairId) (s : State) : Option LaneId :=
  [evenLane k, oddLane k].find? (fun l => s.lanes[l].enabled)

/-- SET_PAIR's own checks and effect (R125). -/
def setPairOwn (_ : Tag) (operands : List Byte) (s : State) : Execution :=
  match pairNamed (byteAt operands 0) with
  | none => badIndex (byteAt operands 0) s
  | some k =>
    match enumOf pairModes (byteAt operands 1) with
    | none => badValue 2 s
    | some mode =>
      match firstEnabled k s with
      | some l => refuse .laneActive (u8 l.val) s
      | none => answerOk (u8 k.val ++ u8 mode.code) (s.setPair k { s.pairs[k] with mode := mode })

/-- SET_PAIR (R125). -/
def execSetPair (s : State) : Host.Outcome State Fault Refusal := takeOperation .setPair setPairOwn s

/-! ## RELAY (R141, R142) -/

/-- Checks 2 to 4 of R141 on RELAY's operands, each with the field number its failure names (R201). -/
def relayChecks (o : List Byte) : List (Bool × Nat) :=
  [(numAt o 1 ≤ 31, 2),
    (1 ≤ numAt o 3 && numAt o 3 ≤ 32, 4),
    ((enumOf confirms (byteAt o 2)).isSome, 3)]

/-- The codes of the queues QUEUE_FULL names (R198). -/
def relayQueueCode : Nat := 0
def replyQueueCode : Nat := 1
def dataQueueCode : Nat := 2

/-- Checks 5 to 8 of R141 on the state, each with the refusal its failure gives. -/
def relayRefusals (l : LaneId) (confirm : Bool) (s : State) : List (Bool × Answer) :=
  [(s.transmitting l, ⟨.laneMode, u8 l.val⟩),
    (s.lanes[l].enabled, ⟨.laneDisabled, u8 l.val⟩),
    (s.pairs[pairOf l].relay.queue.length < Config.relayCapacity, ⟨.queueFull, u8 relayQueueCode⟩),
    (!confirm || 2 ≤ s.replyFree, ⟨.queueFull, u8 replyQueueCode⟩)]

/-- The relay frame a RELAY places (R141). -/
def relayFrameOf (tag : Tag) (o : List Byte) (confirm : Bool) : RelayFrame :=
  { tag := tag
    node := Fin.ofNat 32 (numAt o 1)
    payload := o.drop 4
    confirm := if confirm then some .reserved else none }

/-- Place a relay frame at the tail of a pair's relay queue (R141). -/
def placeRelay (k : PairId) (f : RelayFrame) (s : State) : State :=
  let relay := s.pairs[k].relay
  s.setPair k { s.pairs[k] with relay := { relay with queue := relay.queue ++ [f] } }

/-- RELAY's own checks and effect (R141, R142). -/
def relayOwn (tag : Tag) (operands : List Byte) (s : State) : Execution :=
  match laneOf (byteAt operands 0) with
  | none => badIndex (byteAt operands 0) s
  | some l =>
    match firstFailure (relayChecks operands) with
    | some field => badValue field s
    | none =>
      let confirm := (enumOf confirms (byteAt operands 2)).getD false
      match firstFailure (relayRefusals l confirm s) with
      | some refusal => refuse refusal.status refusal.results s
      | none =>
        let s' := placeRelay (pairOf l) (relayFrameOf tag operands confirm) s
        answerOk
          (u8 l.val ++ u8 (numAt operands 1) ++ u8 s'.pairs[pairOf l].relay.queue.length ++
            yesNo confirm) s'

/-- RELAY (R141). -/
def execRelay (s : State) : Host.Outcome State Fault Refusal := takeOperation .relay relayOwn s

end Sys2Proof.Machine
end

