-- ==== Sys2Proof/Machine/MapRequests.lean ====
section
/-! DEFINITION. The requests that name the map, and READ_CONDITION (chapters 1, 2 and 5). -/

namespace Sys2Proof.Machine

/-- The check result of a read: MATCH 0 or MISMATCH 1 (R11, R202). -/
def checkResult (agrees : Bool) : List Byte := yesNo (!agrees)

/-- The integrity mark a read shows: the entry's own in the active role, always clear in the shadow role
(R15, R92). -/
def shownMark (role : Role) (mark : Bool) : List Byte := yesNo (role == .active && mark)

/-! ## Points -/

/-- The results of READ_POINT (R92, R202). -/
def readPointResults (s : State) (p : PointId) (role : Role) : List Byte :=
  let name := s.map.nameOf role
  let stored := (s.map.bank name).points[p]
  u8 role.code ++ u8 name.code ++ u8 p.val ++ stored.entry.bytes ++ codeField stored.code ++
    checkResult (pointAgrees stored) ++ shownMark role stored.mark ++ u16 s.map.generation.toNat

/-- READ_POINT's own checks and effect (R92). -/
def readPointOwn (_ : Tag) (operands : List Byte) (s : State) : Execution :=
  match enumOf roles (byteAt operands 1) with
  | none => badValue 2 s
  | some role => answerOk (readPointResults s (byteAt operands 0).toFin role) s

/-- READ_POINT (R92). -/
def execReadPoint (s : State) : Host.Outcome State Fault Refusal := takeOperation .readPoint readPointOwn s

/-- Store a point entry with its new code in the shadow bank (R6, R10). -/
def storePoint (p : PointId) (e : PointEntry) (s : State) : State :=
  s.setMap (s.map.setShadowBank (s.map.shadowBank.setPoint p e.stored))

/-- WRITE_POINT's own checks and effect (R5, R6, R91). -/
def writePointOwn (_ : Tag) (operands : List Byte) (s : State) : Execution :=
  match readPointEntry operands.tail with
  | .error field => badValue field s
  | .ok e =>
    answerOk (u8 (numAt operands 0) ++ codeField e.checkCode)
      (storePoint (byteAt operands 0).toFin e s)

/-- WRITE_POINT (R6). -/
def execWritePoint (s : State) : Host.Outcome State Fault Refusal :=
  takeOperation .writePoint writePointOwn s

/-! ## Groups -/

/-- The group an operand names: 0..15 (R8, R93, R117). -/
def groupOf (b : Byte) : Option GroupId := if h : b.toNat < 16 then some ⟨b.toNat, h⟩ else none

/-- The results of READ_GROUP (R93). -/
def readGroupResults (s : State) (g : GroupId) (role : Role) : List Byte :=
  let name := s.map.nameOf role
  let stored := (s.map.bank name).groups[g]
  u8 role.code ++ u8 name.code ++ u8 g.val ++ stored.entry.bytes ++ codeField stored.code ++
    checkResult (groupAgrees stored) ++ shownMark role stored.mark ++ u16 s.map.generation.toNat

/-- READ_GROUP's own checks and effect (R93). -/
def readGroupOwn (_ : Tag) (operands : List Byte) (s : State) : Execution :=
  match groupOf (byteAt operands 0) with
  | none => badIndex (byteAt operands 0) s
  | some g =>
    match enumOf roles (byteAt operands 1) with
    | none => badValue 2 s
    | some role => answerOk (readGroupResults s g role) s

/-- READ_GROUP (R93). -/
def execReadGroup (s : State) : Host.Outcome State Fault Refusal := takeOperation .readGroup readGroupOwn s

/-- Store a group entry with its new code in the shadow bank (R8, R10). -/
def storeGroup (g : GroupId) (e : GroupEntry) (s : State) : State :=
  s.setMap (s.map.setShadowBank (s.map.shadowBank.setGroup g e.stored))

/-- WRITE_GROUP's own checks and effect (R8, R91). -/
def writeGroupOwn (_ : Tag) (operands : List Byte) (s : State) : Execution :=
  match groupOf (byteAt operands 0) with
  | none => badIndex (byteAt operands 0) s
  | some g =>
    match readGroupEntry operands.tail with
    | .error field => badValue field s
    | .ok e => answerOk (u8 g.val ++ codeField e.checkCode) (storeGroup g e s)

/-- WRITE_GROUP (R8). -/
def execWriteGroup (s : State) : Host.Outcome State Fault Refusal :=
  takeOperation .writeGroup writeGroupOwn s

/-! ## The shadow bank as a whole and the long map operations -/

/-- CLEAR_SHADOW's effect: every shadow entry takes the invalid or group-off contents with a fresh code
(R94). -/
def clearShadowOwn (_ : Tag) (_ : List Byte) (s : State) : Execution :=
  answerOk (u8 s.map.active.other.code) (s.setMap (s.map.setShadowBank Bank.empty))

/-- CLEAR_SHADOW (R94). -/
def execClearShadow (s : State) : Host.Outcome State Fault Refusal :=
  takeOperation .clearShadow clearShadowOwn s

/-- Start a long map operation: the tracker is set and a Reply queue entry is reserved (R95, R97). -/
def startLongOp (o : LongOp) (phase : Phase) (tag : Tag) (s : State) : State :=
  s.setMgmt
    { s.mgmt with
      tracker := { operation := o, tag := tag, phase := phase, position := 0, replyOwed := true }
      reservation := true }

/-- COPY_ACTIVE's effect: the copy starts (R98). -/
def copyActiveOwn (tag : Tag) (_ : List Byte) (s : State) : Execution :=
  ⟨startLongOp .copyActive .copying tag s, none⟩

/-- COPY_ACTIVE (R98). -/
def execCopyActive (s : State) : Host.Outcome State Fault Refusal :=
  takeOperation .copyActive copyActiveOwn s

/-- COMMIT's own check and effect: the expected generation, then the start of the check pass with an empty
new key index (R100). -/
def commitOwn (tag : Tag) (operands : List Byte) (s : State) : Execution :=
  if wordAt operands 0 ≠ s.map.generation.toNat then
    refuse .genMismatch (u16 (wordAt operands 0) ++ u16 s.map.generation.toNat) s
  else ⟨startLongOp .commit .checking tag (s.setMap { s.map with partialIndex := [] }), none⟩

/-- COMMIT (R100). -/
def execCommit (s : State) : Host.Outcome State Fault Refusal := takeOperation .commit commitOwn s

/-! ## READ_CONDITION (R48) -/

/-- The state of an active entry: VALID 0, INVALID 1 or FAULTED 2 (R48). -/
def entryStateCode (e : Stored PointEntry) : Nat :=
  if e.mark then 2 else if e.entry.valid then 0 else 1

/-- The results of READ_CONDITION (R48). -/
def readConditionResults (s : State) (p : PointId) : List Byte :=
  let r := s.records[p]
  u8 p.val ++ u8 (entryStateCode (s.activePoint p)) ++ u16 s.map.generation.toNat ++
    u8 r.condition.code ++ u8 r.vote ++ optional 2 (r.lastValue.map s16) ++
    optional 1 (r.lastSequence.map (fun q => u8 q.toNat)) ++ optional 2 (r.lastForwarded.map s16) ++
    optional 4 (r.lastSampleTime.map u32) ++ timerField s.deviceTime r.timer ++ u32 r.samples ++
    u32 r.gaps ++ u32 r.duplicates

/-- READ_CONDITION's own check and effect (R48). -/
def readConditionOwn (_ : Tag) (operands : List Byte) (s : State) : Execution :=
  let p : PointId := (byteAt operands 0).toFin
  match enumOf countersOptions (byteAt operands 1) with
  | none => badValue 2 s
  | some clear =>
    answerOk (readConditionResults s p)
      (if clear then
        s.setRecord p { s.records[p] with samples := 0#32, gaps := 0#32, duplicates := 0#32 }
      else s)

/-- READ_CONDITION (R48). -/
def execReadCondition (s : State) : Host.Outcome State Fault Refusal :=
  takeOperation .readCondition readConditionOwn s

end Sys2Proof.Machine
end

