-- ==== Sys2Proof/Machine/DeviceRequests.lean ====
section
/-! DEFINITION. TRIGGER_GROUP (chapter 6), the trunk requests (chapter 8), READ_DEVICE and RESTART
(chapter 10). -/

namespace Sys2Proof.Machine

/-! ## TRIGGER_GROUP (R117) -/

/-- The field number that names the stored trigger in TRIGGER_GROUP's BAD_VALUE (R198). -/
def storedTriggerField : Nat := 0xFF

/-- The group and its period timer state, which every TRIGGER_GROUP reply but BAD_INDEX carries (R117). -/
def groupTimerField (g : GroupId) (s : State) : List Byte :=
  u8 g.val ++ timerField s.deviceTime s.periodTimers[g]

/-- BAD_VALUE naming the trigger, with the group, its timer state and the mark (R117, R186). -/
def refuseTrigger (g : GroupId) (mark : Bool) (s : State) : Execution :=
  refuse .badValue (u8 storedTriggerField ++ groupTimerField g s ++ yesNo mark) s

/-- The steps of R117 for a group 0..15. -/
def triggerGroup (tag : Tag) (g : GroupId) (s : State) : Execution :=
  let stored := s.activeGroup g
  if stored.mark then refuseTrigger g true s
  else if !groupAgrees stored then refuseTrigger g true (faultGroup g s)
  else if stored.entry.trigger = .off then refuseTrigger g false s
  else if Config.dataCapacity ≤ s.out.dataQ.length then
    refuse .queueFull (u8 dataQueueCode ++ groupTimerField g s) s
  else
    answerOk (groupTimerField g s ++ u8 0 ++ u16 s.map.generation.toNat)
      (placeData (buildReport s g stored.entry .request (some tag)) s)

/-- TRIGGER_GROUP's own checks and effect (R117). -/
def triggerGroupOwn (tag : Tag) (operands : List Byte) (s : State) : Execution :=
  match groupOf (byteAt operands 0) with
  | none => badIndex (byteAt operands 0) s
  | some g => triggerGroup tag g s

/-- TRIGGER_GROUP (R117). -/
def execTriggerGroup (s : State) : Host.Outcome State Fault Refusal :=
  takeOperation .triggerGroup triggerGroupOwn s

/-! ## SET_TRUNK and ENTER_DORMANT (R162, R163) -/

/-- SET_TRUNK's own checks and effect: the five parameters are replaced and the silence timer is restarted
with the new timeout (R162). -/
def setTrunkOwn (_ : Tag) (operands : List Byte) (s : State) : Execution :=
  match readTrunkParams operands with
  | .error field => badValue field s
  | .ok params => answerOk params.field (restartSilence (s.setLink { s.link with params := params }))

/-- SET_TRUNK (R162). -/
def execSetTrunk (s : State) : Host.Outcome State Fault Refusal := takeOperation .setTrunk setTrunkOwn s

/-- ENTER_DORMANT's own test (R163). -/
def enterDormantOwn (_ : Tag) (_ : List Byte) (s : State) : Execution :=
  if s.stack.isEmpty && s.out.alertQ.isEmpty then answerOk [] s
  else refuse .alertsOutstanding (u8 s.stack.length ++ u8 s.out.alertQ.length) s

/-- ENTER_DORMANT (R163). -/
def execEnterDormant (s : State) : Host.Outcome State Fault Refusal :=
  takeOperation .enterDormant enterDormantOwn s

/-! ## READ_DEVICE (R193, R194) -/

/-- The map group of READ_DEVICE: bank, generation, tracker operation, phase, position, reply owed. -/
def deviceMapField (s : State) : List Byte :=
  let t := s.mgmt.tracker
  u8 s.map.active.code ++ u16 s.map.generation.toNat ++ u8 t.operation.code ++ u8 t.phase.code ++
    u16 t.position ++ yesNo t.replyOwed

/-- The link group of READ_DEVICE. -/
def deviceLinkField (s : State) : List Byte :=
  u8 s.link.state.code ++ timerField s.deviceTime s.link.silenceTimer ++
    timerField s.deviceTime s.link.wakeTimer ++ u8 s.link.wakeCount ++ u8 s.link.inbound.length

/-- The inbound counters, in the order of R193. -/
def InboundCounters.field (c : InboundCounters) : List Byte :=
  u32 c.checkErrors ++ u32 c.unknownKinds ++ u32 c.oversize ++ u32 c.overruns ++ u32 c.offlineDiscards

/-- The outbound queues group of READ_DEVICE (R193): the transmitter's class is absent while it is IDLE
(DEDUCED, notes/assumptions/6.md), and the Reply queue's messages and its reservations are two counts (DESIGN
CHOICE, notes/assumptions/24.md). -/
def deviceQueuesField (s : State) : List Byte :=
  u8 s.out.alertQ.length ++ u8 s.out.replyQ.length ++ u8 s.reservations ++ u8 s.out.dataQ.length ++
    u8 (if s.out.sending.isSome then 1 else 0) ++
    optional 1 (s.out.sending.map (fun m => u8 m.trunkClass.code))

/-- The device counters, in the order of R193. -/
def deviceCountersField (o : Outbound) : List Byte :=
  u32 o.loss ++ u32 o.absorbed ++ u32 o.lapseNotSent

/-- A reply cache entry as READ_DEVICE lists it: tag, operation code, IN_PROGRESS 0 or DONE 1. -/
def CacheEntry.field (e : CacheEntry) : List Byte :=
  [e.tag, e.op] ++ u8 (if e.reply.isSome then 1 else 0)

/-- The results of READ_DEVICE, group by group (R193). -/
def readDeviceResults (s : State) : List Byte :=
  identityField ++ u32 s.deviceTime ++ u8 s.link.restartCause.code ++ deviceMapField s ++
    deviceLinkField s ++ s.link.params.field ++ s.link.counters.field ++ deviceQueuesField s ++
    deviceCountersField s.out ++
    (u8 s.stack.length ++ u8 (serviceLevel s.stack) ++ [s.alertCounter]) ++
    s.routing.toList.flatMap slotOrNone ++
    (s.pairs.toList.flatMap (fun p => u8 p.mode.code) ++
      s.lanes.toList.flatMap (fun x => u8 x.state.code)) ++
    (u8 s.mgmt.cache.length ++ s.mgmt.cache.flatMap CacheEntry.field ++ u32 s.mgmt.shortRequests)

/-- READ_DEVICE; it changes nothing (R193). -/
def readDeviceOwn (_ : Tag) (_ : List Byte) (s : State) : Execution := answerOk (readDeviceResults s) s

/-- READ_DEVICE (R193). -/
def execReadDevice (s : State) : Host.Outcome State Fault Refusal :=
  takeOperation .readDevice readDeviceOwn s

/-! ## RESTART (R195) -/

/-- RESTART: the reply carries the device time of the take, and nothing else changes; the restart takes
place at the completion of the reply (R195). -/
def restartOwn (_ : Tag) (_ : List Byte) (s : State) : Execution := answerOk (u32 s.deviceTime) s

/-- RESTART (R195). -/
def execRestart (s : State) : Host.Outcome State Fault Refusal := takeOperation .restart restartOwn s

end Sys2Proof.Machine
end

