-- ==== Sys2Proof/Machine/MapEvents.lean ====
section
/-! DEFINITION. The long map operations as they run (chapter 5): the copy of one entry, the check of one
entry, and the completion of a COMMIT. -/

namespace Sys2Proof.Machine

/-! ## Positions in copy order and check order (R98, R101) -/

/-- The point id at a position below 256. -/
def pointAt (position : Nat) : PointId := Fin.ofNat 256 position

/-- The group at a position from 256 to 271. -/
def groupAt (position : Nat) : GroupId := Fin.ofNat 16 (position - 256)

/-- Advance the tracker's position by one (R98, R101). -/
def advance (s : State) : State :=
  { s with
    mgmt :=
      { s.mgmt with
        tracker := { s.mgmt.tracker with position := s.mgmt.tracker.position + 1 } } }

/-! ## COPY_ACTIVE (R98) -/

/-- The shadow bank with the active entry at a position copied into it: contents and stored code, with a
clear mark (R98). -/
def copyEntry (active shadow : Bank) (position : Nat) : Bank :=
  if position < 256 then
    let p := pointAt position
    shadow.setPoint p { active.points[p] with mark := false }
  else
    let g := groupAt position
    shadow.setGroup g { active.groups[g] with mark := false }

/-- The results of a completed COPY_ACTIVE: the source and destination banks and the generation (R98). -/
def copyResults (s : State) : List Byte :=
  u8 s.map.active.code ++ u8 s.map.active.other.code ++ u16 s.map.generation.toNat

/-- The event of one entry copied; when the position reaches 272 the operation completes in it (R98). -/
def copyActiveEntryEvent (s : State) : State :=
  let tracker := s.mgmt.tracker
  if tracker.operation = .copyActive then
    let shadow := copyEntry s.map.activeBank s.map.shadowBank tracker.position
    let copied := advance (s.setMap (s.map.setShadowBank shadow))
    if tracker.position + 1 < Config.bankEntries then copied
    else endLongOp .ok (copyResults copied) copied
  else s

/-- COPY_ACTIVE_ENTRY (R98). -/
def execCopyActiveEntry (s : State) : Host.Outcome State Fault Refusal :=
  running copyActiveEntryEvent s

/-! ## The check pass of COMMIT (R101, R102) -/

/-- What the check pass finds at one entry (R101): a failure with its status and results, or the new key
index after the entry. -/
inductive CheckFinding where
  | refused (status : Status) (results : List Byte)
  | passed (index : List KeyRow)
  deriving DecidableEq, Repr

/-- The check of one point entry: agreement first, then the uniqueness of a valid entry's key (R101). -/
def checkPoint (p : PointId) (stored : Stored PointEntry) (index : List KeyRow) : CheckFinding :=
  if !pointAgrees stored then .refused .integrity (u8 0 ++ u8 p.val)
  else if !stored.entry.valid then .passed index
  else
    match index.find? (fun row => row.key == stored.entry.key) with
    | some earlier => .refused .dupKey (u8 earlier.point.val ++ u8 p.val)
    | none => .passed (index ++ [⟨stored.entry.key, p⟩])

/-- The check of one group entry (R101). -/
def checkGroup (g : GroupId) (stored : Stored GroupEntry) (index : List KeyRow) : CheckFinding :=
  if !groupAgrees stored then .refused .integrity (u8 1 ++ u8 g.val) else .passed index

/-- The check of the shadow entry at a position (R101). -/
def checkEntry (shadow : Bank) (position : Nat) (index : List KeyRow) : CheckFinding :=
  if position < 256 then checkPoint (pointAt position) shadow.points[pointAt position] index
  else checkGroup (groupAt position) shadow.groups[groupAt position] index

/-- Replace the key index the check pass is building. -/
def setPartialIndex (index : List KeyRow) (s : State) : State :=
  s.setMap { s.map with partialIndex := index }

/-- Set the tracker's phase. -/
def setPhase (phase : Phase) (s : State) : State :=
  { s with mgmt := { s.mgmt with tracker := { s.mgmt.tracker with phase := phase } } }

/-- The event of one entry checked: a failure ends the COMMIT with the partial key index discarded; after
the last entry the phase becomes READY (R101, R102). -/
def checkPassEntryEvent (s : State) : State :=
  let tracker := s.mgmt.tracker
  if tracker.operation = .commit ∧ tracker.phase = .checking then
    match checkEntry s.map.shadowBank tracker.position s.map.partialIndex with
    | .refused status results => endLongOp status results (setPartialIndex [] s)
    | .passed index =>
      let passed := advance (setPartialIndex index s)
      if tracker.position + 1 < Config.bankEntries then passed else setPhase .ready passed
  else s

/-- CHECK_PASS_ENTRY (R101). -/
def execCheckPassEntry (s : State) : Host.Outcome State Fault Refusal :=
  running checkPassEntryEvent s

/-! ## The completion of COMMIT (R103 to R107) -/

/-- Whether a point id's record is retained, from its old and new entries: both valid and unmarked, the
same key, and the same sense, bounds and hysteresis (R104). -/
def retains (old new : Stored PointEntry) : Bool :=
  pointUsable old && pointUsable new && old.entry.key == new.entry.key &&
    old.entry.sense == new.entry.sense && old.entry.lower == new.entry.lower &&
    old.entry.upper == new.entry.upper && old.entry.hysteresis == new.entry.hysteresis

/-- Whether the completion of a COMMIT retains point id `p`: its old entry stands in the active bank, its
new entry in the shadow bank (R104). -/
def State.retainsPoint (s : State) (p : PointId) : Bool :=
  retains s.map.activeBank.points[p] s.map.shadowBank.points[p]

/-- A record after the completion: retained with every field, its timer stopped if the new stale limit is
0 (R104); or the cleared record, its timer started if the new entry qualifies (R105). -/
def reconcileRecord (s : State) (p : PointId) (r : RuntimeRecord) : RuntimeRecord :=
  let new := s.map.shadowBank.points[p]
  if s.retainsPoint p then
    if new.entry.staleLimit = 0 then { r with timer := none } else r
  else { RuntimeRecord.cleared with timer := staleStart s new .unknown }

/-- Whether a cause is a POINT cause of a point id that the completion resets (R106). -/
def prunes (s : State) (c : Cause) : Bool :=
  match c with
  | .point p => !s.retainsPoint p
  | .device _ => false

/-- A slot after the completion: the POINT causes of reset point ids are removed, overflow is not changed
(R58, R106). -/
def pruneSlot (s : State) (sl : Slot) : Slot :=
  { sl with causes := sl.causes.filter (fun c => !prunes s c) }

/-- A group's period timer after the completion, from its old and new entries (R107). -/
def reconcileTimer (now : Time) (old new : Stored GroupEntry) (t : Option Timer) : Option Timer :=
  if new.entry.trigger = .periodic then
    if old.entry = new.entry ∧ !old.mark then t
    else some (startTimer now (new.entry.period * Config.tenth))
  else none

/-- A bank with every integrity mark cleared (R15). -/
def Bank.clearMarks (bank : Bank) : Bank :=
  { points := rowsMap (fun _ e => { e with mark := false }) bank.points
    groups := rowsMap (fun _ e => { e with mark := false }) bank.groups }

/-- The Map Store after the completion: the roles exchanged, the checked key index in service, the new
shadow's marks cleared, the generation one higher (R103). -/
def MapStore.exchange (m : MapStore) : MapStore :=
  { m.setActiveBank m.activeBank.clearMarks with
    active := m.active.other
    keyIndex := m.partialIndex
    generation := m.generation + 1
    partialIndex := [] }

/-- The results of a completed COMMIT: the new generation, the bank now active, the point ids retained
and reset, and the valid entries of the new active bank (R103); `s` is the state before it. -/
def commitResults (s : State) : List Byte :=
  let retained := (allFin 256).countP s.retainsPoint
  let valid := s.map.shadowBank.points.toList.countP (fun e => e.entry.valid)
  u16 (s.map.generation + 1).toNat ++ u8 s.map.active.other.code ++ u16 retained ++
    u16 (256 - retained) ++ u16 valid

/-- The event of the completion of a COMMIT, taken between two frames once the phase is READY (R102,
R103). -/
def commitCompletionEvent (s : State) : State :=
  let tracker := s.mgmt.tracker
  if tracker.operation = .commit ∧ tracker.phase = .ready then
    endLongOp .ok (commitResults s)
      { s with
        map := s.map.exchange
        records := rowsMap (reconcileRecord s) s.records
        slots := rowsMap (fun _ sl => pruneSlot s sl) s.slots
        periodTimers :=
          rowsMap
            (fun g t =>
              reconcileTimer s.deviceTime s.map.activeBank.groups[g] s.map.shadowBank.groups[g] t)
            s.periodTimers }
  else s

/-- COMMIT_COMPLETION (R103). -/
def execCommitCompletion (s : State) : Host.Outcome State Fault Refusal :=
  running commitCompletionEvent s

end Sys2Proof.Machine
end

