-- ==== Sys2Proof/Machine/Reset.lean ====
section
/-! DEFINITION. Cold reset, its release, and the warm restart that a completed RESTART reply causes. -/

namespace Sys2Proof.Machine

/-! ## Cold reset (R204) -/

/-- The restart cause a cold reset leaves (R158, R204). -/
def restartCauseOf (c : ResetCause) : RestartCause :=
  match c with
  | .powerOn => .powerOn
  | .resetLine => .resetLine

/-- COLD_RESET: every block takes its cold reset state, RESTARTED is raised into slot 0, and the part is
held in reset, every line idle at once; the waiting commands and the number of cuts are the model's own and
stay (R204). -/
def execColdReset (c : ResetCause) (s : State) : Host.Outcome State Fault Refusal :=
  .next (State.atColdReset (restartCauseOf c) true s.trunkRate s.pending s.cuts.number)

/-- RESET_RELEASE: the part leaves cold reset, device time starts from 0, and the rate straps are
sampled; a part that is not held in reset has nothing to leave (R204). -/
def execResetRelease (straps : Fin 8) (s : State) : Host.Outcome State Fault Refusal :=
  .next (if s.inReset then { s with inReset := false, deviceTime := 0#32, trunkRate := straps } else s)

/-! ## Warm restart (R196) -/

/-- A lane at warm restart: an enabled lane enters HUNT, a disabled lane stays DISABLED, and everything
but the settings is cleared (R148). -/
def Lane.warmRestart (x : Lane) : Lane :=
  { settings := x.settings, state := if x.enabled then .hunt else .disabled, frame := none,
    holdoffElapsed := false, errors := 0, holdoffTimer := none, fifo := [],
    counters := LaneCounters.zero }

/-- A group's period timer at warm restart, from its active entry (R115). -/
def restartPeriodTimer (now : Time) (g : Stored GroupEntry) : Option Timer :=
  if g.entry.trigger = .periodic ∧ !g.mark then
    some (startTimer now (g.entry.period * Config.tenth))
  else none

/-- The Trunk Link Controller at warm restart: the trunk parameters alone are kept (R171). -/
def LinkControl.warmRestart (l : LinkControl) : LinkControl :=
  { LinkControl.coldReset .restartRequest with params := l.params }

/-- A slot at warm restart: level and mask kept, emptied (R65). -/
def Slot.warmRestart (sl : Slot) : Slot := { sl with causes := [], overflow := false }

/-- The transmit lines at warm restart, which cuts off every relay frame in transmission and finds the Trunk
Transmitter IDLE (R148, R182; that a frame cut off here finishes its character as at a disable is DEDUCED,
notes/assumptions/25.md). -/
def State.relaysCut (s : State) : CutLines :=
  { s.cuts with
    relays := rowsMap (fun k c => (s.relayCut k).or c) s.cuts.relays
    number := s.cuts.number + 1 }

/-- The warm restart event, block by block as R196 lists, with the raise of RESTARTED at its end (R20,
R30, R65, R90, R115, R148, R171, R182, R196). -/
def warmRestart (s : State) : State :=
  let cleared : State :=
    { s with
      map := { s.map with partialIndex := [] }
      records := rowsMap (fun _ _ => RuntimeRecord.cleared) s.records
      servicePointer := 7
      periodTimers :=
        rowsMap (fun g _ => restartPeriodTimer s.deviceTime s.map.activeBank.groups[g]) s.periodTimers
      slots := rowsMap (fun _ sl => sl.warmRestart) s.slots
      stack := []
      alertCounter := 0#8
      lanes := rowsMap (fun _ x => x.warmRestart) s.lanes
      pairs := rowsMap (fun _ p => { p with relay := RelayTransmitter.reset }) s.pairs
      link := s.link.warmRestart
      out := Outbound.reset
      mgmt := Management.reset
      cuts := s.relaysCut }
  raiseDevice .restarted
    { cleared with
      records :=
        rowsMap
          (fun p r => { r with timer := staleStart cleared (cleared.activePoint p) r.condition })
          cleared.records }

end Sys2Proof.Machine
end

