-- ==== Sys2Proof/Machine/SlotRequests.lean ====
section
/-! DEFINITION. The slot requests (chapter 3) and the stack requests (chapter 4). -/

namespace Sys2Proof.Machine

/-! ## Slots (R60 to R63) -/

/-- SET_SLOT's own checks and effect (R60). The pending byte of its reply is DEDUCED,
notes/assumptions/6.md. -/
def setSlotOwn (_ : Tag) (operands : List Byte) (s : State) : Execution :=
  match slotOf (byteAt operands 0) with
  | none => badIndex (byteAt operands 0) s
  | some k =>
    if h : numAt operands 1 < 4 then
      match enumOf masks (byteAt operands 2) with
      | none => badValue 3 s
      | some mask =>
        let sl : Slot := { s.slots[k] with level := ⟨numAt operands 1, h⟩, mask := mask }
        answerOk (u8 k.val ++ u8 sl.level.val ++ u8 sl.mask.code ++ yesNo sl.pending) (s.setSlot k sl)
    else badValue 2 s

/-- SET_SLOT (R60). -/
def execSetSlot (s : State) : Host.Outcome State Fault Refusal := takeOperation .setSlot setSlotOwn s

/-- The results of READ_SLOT (R63). Its pending byte and its absent record number are DEDUCED,
notes/assumptions/6.md. -/
def readSlotResults (s : State) (k : SlotId) : List Byte :=
  let sl := s.slots[k]
  u8 k.val ++ u8 sl.level.val ++ u8 sl.mask.code ++ yesNo sl.pending ++ causesField sl.causes ++
    yesNo sl.overflow ++ optional 1 ((recordOfSlot s.stack k).map (fun r => [r.number]))

/-- READ_SLOT's own check; it changes nothing (R63). -/
def readSlotOwn (_ : Tag) (operands : List Byte) (s : State) : Execution :=
  match slotOf (byteAt operands 0) with
  | none => badIndex (byteAt operands 0) s
  | some k => answerOk (readSlotResults s k) s

/-- READ_SLOT (R63). -/
def execReadSlot (s : State) : Host.Outcome State Fault Refusal := takeOperation .readSlot readSlotOwn s

/-- CLEAR_SLOT's own check and effect (R61). -/
def clearSlotOwn (_ : Tag) (operands : List Byte) (s : State) : Execution :=
  match slotOf (byteAt operands 0) with
  | none => badIndex (byteAt operands 0) s
  | some k =>
    let sl := s.slots[k]
    answerOk (u8 k.val ++ u8 sl.causes.length ++ yesNo sl.overflow)
      (s.setSlot k { sl with causes := [], overflow := false })

/-- CLEAR_SLOT (R61). -/
def execClearSlot (s : State) : Host.Outcome State Fault Refusal := takeOperation .clearSlot clearSlotOwn s

/-- SET_ROUTE's own checks and effect (R62). -/
def setRouteOwn (_ : Tag) (operands : List Byte) (s : State) : Execution :=
  match enumOf deviceCauses (byteAt operands 0) with
  | none => badValue 1 s
  | some cause =>
    if slotByteOk (byteAt operands 1) then
      let route := slotOf (byteAt operands 1)
      answerOk (u8 cause.code.val ++ slotOrNone route ++ slotOrNone s.routing[cause.code])
        { s with routing := rowSet s.routing cause.code route }
    else badValue 2 s

/-- SET_ROUTE (R62). -/
def execSetRoute (s : State) : Host.Outcome State Fault Refusal := takeOperation .setRoute setRouteOwn s

/-! ## The in-service stack (R81, R82, R88) -/

/-- Whether a message is the ALERT of this number. -/
def Message.isAlertOf (m : Message) (number : AlertNumber) : Bool :=
  match m with
  | .alert a => a.number == number
  | _ => false

/-- The Alert queue after a pop: the ALERT of a QUEUED record is withdrawn (R81, R175). -/
def withdrawAlert (r : InService) (queue : List Message) : List Message :=
  if r.state = .queued then queue.filter (fun m => !m.isAlertOf r.number) else queue

/-- The pop of the top record (R81). -/
def popTop (top : InService) (s : State) : State :=
  (s.setStack s.stack.dropLast).setOut
    { s.out with alertQ := withdrawAlert top s.out.alertQ }

/-- The results of ALERT_DONE's OK (R81). -/
def alertDoneResults (top : InService) (s : State) : List Byte :=
  [top.number] ++ u8 top.slot.val ++ u8 top.repeatCount ++ u8 top.state.code ++
    u8 (serviceLevel s.stack.dropLast)

/-- ALERT_DONE's own checks and effect (R81, R82). -/
def alertDoneOwn (_ : Tag) (operands : List Byte) (s : State) : Execution :=
  let number := byteAt operands 0
  match s.stack.getLast? with
  | none => refuse .unknownAlert ([number] ++ optional 1 none) s
  | some top =>
    if top.number = number then answerOk (alertDoneResults top s) (popTop top s)
    else if s.stack.any (fun r => r.number == number) then
      refuse .notTop ([number, top.number] ++ u8 top.level.val) s
    else refuse .unknownAlert ([number] ++ optional 1 (some [top.number])) s

/-- ALERT_DONE (R81). -/
def execAlertDone (s : State) : Host.Outcome State Fault Refusal := takeOperation .alertDone alertDoneOwn s

/-- One record of READ_STACK's list (R88). -/
def InService.field (now : Time) (r : InService) : List Byte :=
  [r.number] ++ u8 r.slot.val ++ u8 r.level.val ++ u8 r.state.code ++ u8 r.repeatCount ++
    u32 r.captureTime ++ yesNo r.overflow ++ causesField r.causes ++ timerField now r.timer

/-- The results of READ_STACK (R88). -/
def readStackResults (s : State) : List Byte :=
  u8 s.stack.length ++ u8 (serviceLevel s.stack) ++ [s.alertCounter] ++
    s.stack.flatMap (InService.field s.deviceTime)

/-- READ_STACK; it changes nothing (R88). -/
def readStackOwn (_ : Tag) (_ : List Byte) (s : State) : Execution := answerOk (readStackResults s) s

/-- READ_STACK (R88). -/
def execReadStack (s : State) : Host.Outcome State Fault Refusal := takeOperation .readStack readStackOwn s

end Sys2Proof.Machine
end

