-- ==== Sys2Proof/Machine/Transmitter.lean ====
section
/-! DEFINITION. The Trunk Transmitter (chapter 9): the start and the completion of a transmission, the
entry into DORMANT, and the reports to the blocks concerned. -/

namespace Sys2Proof.Machine

/-! ## Transmission start (R75, R177) -/

/-- What a start takes: the message, and the outbound side without it. -/
structure Start where
  message : Message
  rest : Outbound
  deriving DecidableEq, Repr

/-- The start the idle transmitter makes, chosen by the link state (R177). -/
def chooseStart (link : LinkState) (o : Outbound) : Option Start :=
  match link with
  | .active =>
    match o.alertQ, o.replyQ, o.dataQ with
    | m :: rest, _, _ => some ⟨m, { o with alertQ := rest }⟩
    | [], m :: rest, _ => some ⟨m, { o with replyQ := rest }⟩
    | [], [], m :: rest => some ⟨m, { o with dataQ := rest }⟩
    | [], [], [] => none
  | .waking => o.wakeOffer.map (fun m => ⟨m, { o with wakeOffer := none }⟩)
  | .dormant => none
  | .offline => none

/-- The stack after the report of a transmission start: the QUEUED record of a started ALERT becomes
SENDING (R75). -/
def reportStart (m : Message) (stack : List InService) : List InService :=
  match m with
  | .alert a =>
    stack.map fun r =>
      if r.number = a.number ∧ r.state = .queued then { r with state := .sending } else r
  | _ => stack

/-- The event of a transmission start; while a message is in transmission, or none is eligible, no start
is taken (R177). A start finds the line's earlier character finished (R204, notes/assumptions/25.md). -/
def transmissionStartEvent (s : State) : State :=
  match s.out.sending, chooseStart s.link.state s.out with
  | none, some start =>
    { s with
      out := { start.rest with sending := some start.message }
      stack := reportStart start.message s.stack
      cuts := { s.cuts with trunk := none } }
  | _, _ => s

/-- TRANSMISSION_START (R177). -/
def execTransmissionStart (s : State) : Host.Outcome State Fault Refusal :=
  running transmissionStartEvent s

/-! ## Transmission completion (R179) -/

/-- The stack after the report of an ALERT's completion: its SENDING record becomes AWAITING and its
acknowledgement timer starts (R75, R76). -/
def reportCompletion (a : AlertMessage) (s : State) : List InService :=
  s.stack.map fun r =>
    if r.number = a.number ∧ r.state = .sending then
      { r with
        state := .awaiting
        timer := some (startTimer s.deviceTime (s.link.params.ackTimeout * Config.tenth)) }
    else r

/-- Whether the conditions of the entry into DORMANT hold (R164). -/
def State.mayEnterDormant (s : State) : Bool :=
  s.link.state == .active && s.stack.isEmpty && s.out.alertQ.isEmpty && s.out.replyQ.isEmpty &&
    s.reservations == 0 && s.link.inbound.isEmpty

/-- The entry into DORMANT: the silence timer stops, the Data queue is flushed and counted absorbed, and
the link goes on to WAKING at once if the wake demand holds (R164, R165, R181). -/
def enterDormant (s : State) : State :=
  wakeCheck
    { s with
      link := { s.link with state := .dormant, silenceTimer := none }
      out :=
        { s.out with
          dataQ := []
          absorbed := s.out.absorbed + BitVec.ofNat 32 s.out.dataQ.length } }

/-- The report of a completion by the message's kind, on the state with the transmitter IDLE (R179). -/
def reportCompleted (m : Message) (s : State) : State :=
  match m with
  | .alert a => s.setStack (reportCompletion a s)
  | .reply r =>
    if r.status = .ok ∧ r.op = Operation.enterDormant.code then
      if s.mayEnterDormant then enterDormant s else s
    else if r.status = .ok ∧ r.op = Operation.restart.code then warmRestart s
    else s
  | .attachReply _ => s.setLink { s.link with restartCause := .none }
  | .lapse _ => s
  | .relayDone _ => s
  | .data _ => s
  | .unmatched _ => s
  | .report _ => s
  | .wake _ => s

/-- The event of a transmission completion: the transmitter becomes IDLE and the completion is reported;
with no message in transmission nothing completes (R179). -/
def transmissionCompletionEvent (s : State) : State :=
  match s.out.sending with
  | none => s
  | some m => reportCompleted m (s.setOut { s.out with sending := none })

/-- TRANSMISSION_COMPLETION (R179). -/
def execTransmissionCompletion (s : State) : Host.Outcome State Fault Refusal :=
  running transmissionCompletionEvent s

end Sys2Proof.Machine
end

