-- ==== Sys2Proof/Machine/Trunk.lean ====
section
/-! DEFINITION. The Trunk Link Controller (chapter 8): inbound messages, ATTACH, REQUEST, KEEPALIVE, and
the expiries of the silence timer and the wake timer. -/

namespace Sys2Proof.Machine

/-! ## The trunk receiver (R152) -/

/-- The event of a start delimiter on the trunk: in HUNT a message in progress begins; within a message it
is the next character, whatever its value (R152). -/
def trunkMessageBeginEvent (s : State) : State :=
  match s.link.receiver with
  | none => s.setLink { s.link with receiver := some [] }
  | some _ => s

/-- TRUNK_MESSAGE_BEGIN (R152). -/
def execTrunkMessageBegin (s : State) : Host.Outcome State Fault Refusal :=
  running trunkMessageBeginEvent s

/-- The receiver returns to HUNT after a message end (R152). -/
def receiverHunt (s : State) : State := s.setLink { s.link with receiver := none }

/-! ## Valid messages (R154 to R157) -/

/-- The ATTACH_REPLY built from the state as it stands (R157). -/
def attachReply (s : State) : Message :=
  .attachReply
    { generation := s.map.generation, bank := s.map.active, cause := s.link.restartCause,
      time := s.deviceTime, params := s.link.params }

/-- A valid ATTACH: teardown unless the link is OFFLINE, then ACTIVE, then the ATTACH_REPLY (R156). -/
def attachMessage (s : State) : State :=
  let opened := becomeActive (if s.link.state = .offline then s else teardown s)
  placeReply (attachReply opened) opened

/-- A REQUEST offered to the inbound queue: placed, or discarded and counted when it holds four (R155). -/
def offerRequest (payload : List Byte) (s : State) : State :=
  if s.link.inbound.length < Config.inboundCapacity then
    s.setLink { s.link with inbound := s.link.inbound ++ [payload] }
  else
    s.setLink
      { s.link with counters := { s.link.counters with overruns := s.link.counters.overruns + 1 } }

/-- A valid REQUEST, by the link state (R154). -/
def requestMessage (payload : List Byte) (s : State) : State :=
  match s.link.state with
  | .offline =>
    s.setLink
      { s.link with
        counters := { s.link.counters with offlineDiscards := s.link.counters.offlineDiscards + 1 } }
  | .active => offerRequest payload (restartSilence s)
  | .dormant => offerRequest payload (becomeActive s)
  | .waking => offerRequest payload (becomeActive s)

/-- A valid KEEPALIVE, by the link state (R154). -/
def keepaliveMessage (s : State) : State :=
  match s.link.state with
  | .offline => s
  | .active => restartSilence s
  | .dormant => becomeActive s
  | .waking => becomeActive s

/-- The effect of a valid message by its kind, with the receiver back in HUNT (R154). -/
def validMessage (kind : InboundKind) (payload : List Byte) (s : State) : State :=
  match kind with
  | .attach => attachMessage (receiverHunt s)
  | .request => requestMessage payload (receiverHunt s)
  | .keepalive => keepaliveMessage (receiverHunt s)

/-- The end of the message in progress as a valid message of that kind; in HUNT no message is in progress,
and a payload over 240 characters is never taken (R152, R153). -/
def validMessageEvent (kind : InboundKind) (payload : List Byte) (s : State) : State :=
  if s.link.receiver.isSome ∧ payloadFits payload then validMessage kind payload s else s

/-- The event of a valid ATTACH's end; its payload is not examined (R153, R156). -/
def attachEvent (payload : List Byte) (s : State) : State := validMessageEvent .attach payload s

/-- ATTACH (R156). -/
def execAttach (payload : List Byte) (s : State) : Host.Outcome State Fault Refusal :=
  running (attachEvent payload) s

/-- The event of a valid REQUEST's end (R154, R155). -/
def requestEvent (payload : List Byte) (s : State) : State := validMessageEvent .request payload s

/-- REQUEST (R154). -/
def execRequest (payload : List Byte) (s : State) : Host.Outcome State Fault Refusal :=
  running (requestEvent payload) s

/-- The event of a valid KEEPALIVE's end; its payload is not examined (R153, R154). -/
def keepaliveEvent (payload : List Byte) (s : State) : State := validMessageEvent .keepalive payload s

/-- KEEPALIVE (R154). -/
def execKeepalive (payload : List Byte) (s : State) : Host.Outcome State Fault Refusal :=
  running (keepaliveEvent payload) s

/-! ## Message ends judged from their characters (R152, R153) -/

/-- The inbound counters after a discarded message of this outcome (R153). -/
def InboundCounters.discard (c : InboundCounters) (v : InboundVerdict) : InboundCounters :=
  match v with
  | .valid _ _ => c
  | .checkError => { c with checkErrors := c.checkErrors + 1 }
  | .unknownKind => { c with unknownKinds := c.unknownKinds + 1 }
  | .oversize => { c with oversize := c.oversize + 1 }

/-- The event of a message end judged from the characters received: a failed message is discarded and
counted, a valid one has the effect of its kind (R152, R153). Characters that do not agree with the way
the message ended are no message end. -/
def messageEndEvent (cause : MessageEndCause) (chars : List Byte) (s : State) : State :=
  match s.link.receiver with
  | none => s
  | some held =>
    let whole := held ++ chars
    if !messageCharsAgree cause whole then s
    else
      match judgeMessage cause whole with
      | .valid kind payload => validMessage kind payload s
      | v =>
        s.setLink { s.link with receiver := none, counters := s.link.counters.discard v }

/-- MESSAGE_END (R153). -/
def execMessageEnd (cause : MessageEndCause) (chars : List Byte) (s : State) :
    Host.Outcome State Fault Refusal :=
  running (messageEndEvent cause chars) s

/-! ## Timers of the link (R159, R168) -/

/-- The event of the silence timer's expiry: teardown to OFFLINE (R159). -/
def silenceTimerExpiryEvent (s : State) : State :=
  if timerDue s.deviceTime s.link.silenceTimer then teardown s else s

/-- SILENCE_TIMER_EXPIRY (R159). -/
def execSilenceTimerExpiry (s : State) : Host.Outcome State Fault Refusal :=
  running silenceTimerExpiryEvent s

/-- The event of the wake timer's expiry: below the wake limit a further WAKE and a restart of the timer,
otherwise teardown to OFFLINE (R168). -/
def wakeTimerExpiryEvent (s : State) : State :=
  if timerDue s.deviceTime s.link.wakeTimer then
    if s.link.wakeCount < s.link.params.wakeLimit then
      offerWake { s with link := { s.link with wakeTimer := wakeTimerStart s } }
    else teardown s
  else s

/-- WAKE_TIMER_EXPIRY (R168). -/
def execWakeTimerExpiry (s : State) : Host.Outcome State Fault Refusal :=
  running wakeTimerExpiryEvent s

end Sys2Proof.Machine
end

