-- ==== Sys2Proof/Machine/Dispatch.lean ====
section
/-! DEFINITION. The meaning of every command: one arm for each row of spec/opcode_table.json. -/

namespace Sys2Proof.Machine

def exec (i : Instr) (s : State) : Host.Outcome State Fault Refusal :=
  match i with
  | .coldReset cause => Sys2Proof.Machine.execColdReset cause s
  | .resetRelease straps => Sys2Proof.Machine.execResetRelease straps s
  | .frameEnd lane cause chars => Sys2Proof.Machine.execFrameEnd lane cause chars s
  | .holdoffExpiry lane => Sys2Proof.Machine.execHoldoffExpiry lane s
  | .frameTaken => Sys2Proof.Machine.execFrameTaken s
  | .staleExpiry point => Sys2Proof.Machine.execStaleExpiry point s
  | .periodTimerExpiry group => Sys2Proof.Machine.execPeriodTimerExpiry group s
  | .copyActiveEntry => Sys2Proof.Machine.execCopyActiveEntry s
  | .checkPassEntry => Sys2Proof.Machine.execCheckPassEntry s
  | .commitCompletion => Sys2Proof.Machine.execCommitCompletion s
  | .capture => Sys2Proof.Machine.execCapture s
  | .acknowledgementTimerExpiry number => Sys2Proof.Machine.execAcknowledgementTimerExpiry number s
  | .owedRepeatPlacement => Sys2Proof.Machine.execOwedRepeatPlacement s
  | .transmissionStart => Sys2Proof.Machine.execTransmissionStart s
  | .transmissionCompletion => Sys2Proof.Machine.execTransmissionCompletion s
  | .messageEnd cause chars => Sys2Proof.Machine.execMessageEnd cause chars s
  | .attach payload => Sys2Proof.Machine.execAttach payload s
  | .request payload => Sys2Proof.Machine.execRequest payload s
  | .keepalive payload => Sys2Proof.Machine.execKeepalive payload s
  | .silenceTimerExpiry => Sys2Proof.Machine.execSilenceTimerExpiry s
  | .wakeTimerExpiry => Sys2Proof.Machine.execWakeTimerExpiry s
  | .gapEnd pair => Sys2Proof.Machine.execGapEnd pair s
  | .relayTransmissionStart pair => Sys2Proof.Machine.execRelayTransmissionStart pair s
  | .relayTransmissionCompletion pair => Sys2Proof.Machine.execRelayTransmissionCompletion pair s
  | .shortRequest => Sys2Proof.Machine.execShortRequest s
  | .badOp => Sys2Proof.Machine.execBadOp s
  | .readPoint => Sys2Proof.Machine.execReadPoint s
  | .writePoint => Sys2Proof.Machine.execWritePoint s
  | .readGroup => Sys2Proof.Machine.execReadGroup s
  | .writeGroup => Sys2Proof.Machine.execWriteGroup s
  | .clearShadow => Sys2Proof.Machine.execClearShadow s
  | .copyActive => Sys2Proof.Machine.execCopyActive s
  | .commit => Sys2Proof.Machine.execCommit s
  | .readCondition => Sys2Proof.Machine.execReadCondition s
  | .setSlot => Sys2Proof.Machine.execSetSlot s
  | .readSlot => Sys2Proof.Machine.execReadSlot s
  | .clearSlot => Sys2Proof.Machine.execClearSlot s
  | .setRoute => Sys2Proof.Machine.execSetRoute s
  | .alertDone => Sys2Proof.Machine.execAlertDone s
  | .readStack => Sys2Proof.Machine.execReadStack s
  | .setLane => Sys2Proof.Machine.execSetLane s
  | .readLane => Sys2Proof.Machine.execReadLane s
  | .clearLaneCounters => Sys2Proof.Machine.execClearLaneCounters s
  | .setPair => Sys2Proof.Machine.execSetPair s
  | .relay => Sys2Proof.Machine.execRelay s
  | .triggerGroup => Sys2Proof.Machine.execTriggerGroup s
  | .setTrunk => Sys2Proof.Machine.execSetTrunk s
  | .enterDormant => Sys2Proof.Machine.execEnterDormant s
  | .readDevice => Sys2Proof.Machine.execReadDevice s
  | .restart => Sys2Proof.Machine.execRestart s
  | .laneFrameBegin lane => Sys2Proof.Machine.execLaneFrameBegin lane s
  | .trunkMessageBegin => Sys2Proof.Machine.execTrunkMessageBegin s

end Sys2Proof.Machine
end

