-- ==== Sys2Proof/Machine/Ticks.lean ====
section
/-! DEFINITION. What happens while no command waits: the timers that have reached their expiry, one at a
time in a fixed order, and otherwise the next millisecond of device time (notes/assumptions/5.md). -/

namespace Sys2Proof.Machine

/-- The rows of a table whose timer has reached its expiry: the first of them. -/
def firstDue {α : Type} {n : Nat} (now : Time) (timerOf : α → Option Timer) (v : Vector α n) :
    Option (Fin n) :=
  ((rows v).find? (fun row => timerDue now (timerOf row.2))).map (fun row => row.1)

/-- The expiry of the lowest point whose stale timer is due (R46). -/
def dueStale (s : State) : Option Instr :=
  (firstDue s.deviceTime RuntimeRecord.timer s.records).map Instr.staleExpiry

/-- The expiry of the lowest group whose period timer is due (R114). -/
def duePeriod (s : State) : Option Instr :=
  (firstDue s.deviceTime id s.periodTimers).map Instr.periodTimerExpiry

/-- The expiry of the lowest lane whose holdoff timer is due (R132). -/
def dueHoldoff (s : State) : Option Instr :=
  (firstDue s.deviceTime Lane.holdoffTimer s.lanes).map Instr.holdoffExpiry

/-- The expiry of the lowest record of the stack that is AWAITING with its acknowledgement timer due
(R77). -/
def dueAcknowledgement (s : State) : Option Instr :=
  (s.stack.find? (fun r => r.state == .awaiting && timerDue s.deviceTime r.timer)).map
    (fun r => Instr.acknowledgementTimerExpiry r.number)

/-- The expiry of the silence timer, if it is due (R159). -/
def dueSilence (s : State) : Option Instr :=
  if timerDue s.deviceTime s.link.silenceTimer then some .silenceTimerExpiry else none

/-- The expiry of the wake timer, if it is due (R168). -/
def dueWake (s : State) : Option Instr :=
  if timerDue s.deviceTime s.link.wakeTimer then some .wakeTimerExpiry else none

/-- The expiry that happens next while no command waits: stale timers, period timers, holdoff timers,
acknowledgement timers, the silence timer, the wake timer, the lowest first (notes/assumptions/5.md). -/
def dueExpiry (s : State) : Option Instr :=
  (dueStale s).or <| (duePeriod s).or <| (dueHoldoff s).or <| (dueAcknowledgement s).or <|
    (dueSilence s).or (dueWake s)

/-- The next millisecond of device time, which wraps (00_scope, Conventions); a character of a transmission
cut short that is finished by it leaves its line idle (R204). -/
def nextMillisecond (s : State) : State :=
  { s with deviceTime := s.deviceTime + 1, cuts := s.cuts.settle (s.deviceTime + 1) }

end Sys2Proof.Machine
end

