-- ==== Sys2Proof/Machine/Step.lean ====
section
/-! DEFINITION. One step of the block: the command at the front of the queue, or, while none waits, the
passing of time; and the command a table word spells put in front. -/

namespace Sys2Proof.Machine

/-- One step: the command at the front of the queue is taken off it and executed. While no command waits,
a part held in cold reset idles, and a running part takes the next expiry that is due or, with none due,
the next millisecond (notes/assumptions/2.md, notes/assumptions/5.md). -/
def step (s : State) : Host.Outcome State Fault Refusal :=
  match s.pending with
  | c :: rest => exec c { s with pending := rest }
  | [] =>
    if s.inReset then .next s
    else
      match dueExpiry s with
      | some expiry => exec expiry s
      | none => .next (nextMillisecond s)

/-- The state with the command that the word `w` of `nbits` bits spells put at the front of its queue;
unchanged where the word spells none (notes/assumptions/1.md). -/
def State.withFetchWord (s : State) (nbits w : Nat) : State :=
  match decodeTableWord nbits w with
  | some c => { s with pending := c :: s.pending }
  | none => s

end Sys2Proof.Machine
end

