-- ==== Sys2Proof/Safety.lean ====
section
/-! DEFINITION. What counts as a legal state of the block, law by law, and the vocabulary the statements
use for a request that is taken and for its reply. -/

namespace Sys2Proof.Machine

/-! ## Steps -/

/-- A step that goes on: the block answers a next state. -/
def State.goesOn (s : State) : Prop := ∃ t, step s = .next t

/-- A predicate that every step keeps, from every state that has it. -/
def KeptByEveryStep (legal : State → Prop) : Prop :=
  ∀ s t, legal s → step s = .next t → legal t

/-! ## Slots (R50) -/

/-- A cause set holds at most eight entries without duplicates (R50). -/
def Slot.legal (sl : Slot) : Prop :=
  sl.causes.length ≤ Config.causeCapacity ∧ sl.causes.Nodup

/-- Every slot's cause set is legal (R50). -/
def State.slotsLegal (s : State) : Prop := ∀ k : SlotId, s.slots[k].legal

/-! ## The in-service stack (R67, R68, R74) -/

/-- From bottom to top the levels fall strictly, and no slot and no number stands twice (R67, R68). -/
def stackNested (stack : List InService) : Prop :=
  stack.Pairwise fun lower upper =>
    upper.level < lower.level ∧ upper.slot ≠ lower.slot ∧ upper.number ≠ lower.number

/-- The stack is nested and holds at most four records (R67, R68). -/
def State.stackLegal (s : State) : Prop :=
  s.stack.length ≤ Config.stackCapacity ∧ stackNested s.stack

/-- How many ALERTs of a number stand in a queue. -/
def alertsOf (number : AlertNumber) (queue : List Message) : Nat :=
  queue.countP (fun m => m.isAlertOf number)

/-- Every ALERT in the Alert queue belongs to a QUEUED record of the stack, and every record has exactly
one ALERT there while it is QUEUED and none otherwise; and an offered message that waits outside the queues
is a WAKE (R74, R167, R172). -/
def State.alertsLegal (s : State) : Prop :=
  (∀ a, Message.alert a ∈ s.out.alertQ → ∃ r ∈ s.stack, r.number = a.number ∧ r.state = .queued) ∧
    (∀ r ∈ s.stack, alertsOf r.number s.out.alertQ = if r.state = .queued then 1 else 0) ∧
    s.out.wakeOffer.all (fun m => m.trunkClass == .wake) = true

/-! ## Lanes (R133) -/

/-- Frames ended is the sum of the six outcome counters, modulo 2^32 (R133). -/
def LaneCounters.balanced (c : LaneCounters) : Prop :=
  c.framesEnded =
    c.accepted + c.lineErrors + c.checkErrors + c.formatErrors + c.overruns + c.suspendedDrops

/-- Every lane's counters balance (R133). -/
def State.lanesBalanced (s : State) : Prop := ∀ l : LaneId, s.lanes[l].counters.balanced

/-! ## The map and the runtime records (R3, R4, R7, R15, R24) -/

/-- The ranges of R3, and R4's contents for an invalid entry. -/
def PointEntry.legal (e : PointEntry) : Prop :=
  e.node.val ≤ 30 ∧ e.deadband ≤ 32767 ∧ e.lower.toInt ≤ e.upper.toInt ∧ e.hysteresis ≤ 4095 ∧
    (e.sense = .insideNormal → 2 * (e.hysteresis : Int) ≤ e.upper.toInt - e.lower.toInt) ∧
    1 ≤ e.qualify ∧ e.qualify ≤ 8 ∧ e.staleLimit ≤ 600 ∧ (e.valid = false → e = PointEntry.invalid)

/-- The ranges of R7, and the group-off contents for trigger OFF. -/
def GroupEntry.legal (g : GroupEntry) : Prop :=
  1 ≤ g.length ∧ g.length ≤ 8 ∧ g.start.val + g.length - 1 ≤ 255 ∧ 1 ≤ g.period ∧ g.period ≤ 36000 ∧
    g.triggerMember ≤ 7 ∧ g.triggerMember < g.length ∧ (g.trigger = .off → g = GroupEntry.groupOff)

/-- Every entry of a bank is in range (R3, R7). -/
def Bank.legal (b : Bank) : Prop :=
  (∀ p : PointId, b.points[p].entry.legal) ∧ ∀ g : GroupId, b.groups[g].entry.legal

/-- Every mark of a bank is clear (R15). -/
def Bank.unmarked (b : Bank) : Prop :=
  (∀ p : PointId, b.points[p].mark = false) ∧ ∀ g : GroupId, b.groups[g].mark = false

/-- The vote count is 0..7, and 0 in UNKNOWN, STALE and FAULTED (R24). -/
def RuntimeRecord.legal (r : RuntimeRecord) : Prop :=
  r.vote ≤ 7 ∧
    (r.condition = .unknown ∨ r.condition = .stale ∨ r.condition = .faulted → r.vote = 0)

/-- Both banks are in range, the shadow bank carries no mark, and every record's votes are legal (R3, R7,
R15, R24). -/
def State.mapLegal (s : State) : Prop :=
  s.map.bankA.legal ∧ s.map.bankB.legal ∧ s.map.shadowBank.unmarked ∧
    ∀ p : PointId, s.records[p].legal

/-! ## The key index (R9) -/

/-- The rows of a bank's valid entries with a point id below `bound`, in ascending point id (R9, R101). -/
def indexOf (b : Bank) (bound : Nat) : List KeyRow :=
  ((rows b.points).filter (fun row => row.2.entry.valid && row.1.val < bound)).map
    (fun row => ⟨row.2.entry.key, row.1⟩)

/-- No key stands in two rows. -/
def keysDistinct (index : List KeyRow) : Prop := (index.map (fun row => row.key)).Nodup

/-- The key index holds one row for each valid entry of the active bank and no key twice, and while a
COMMIT runs, the index under construction holds those of the shadow entries already checked (R9, R101). -/
def State.indexLegal (s : State) : Prop :=
  s.map.keyIndex = indexOf s.map.activeBank 256 ∧ keysDistinct s.map.keyIndex ∧
    (s.mgmt.tracker.operation = .commit →
      s.map.partialIndex = indexOf s.map.shadowBank s.mgmt.tracker.position ∧
        keysDistinct s.map.partialIndex ∧
        (s.mgmt.tracker.phase = .ready → 256 ≤ s.mgmt.tracker.position))

/-! ## Points out of hearing (R26) -/

/-- Whether a point's active entry is valid and unmarked and its lane is listening (R26). -/
def State.pointHeard (s : State) (p : PointId) : Bool :=
  pointUsable (s.activePoint p) && s.listening (s.activePoint p).entry.lane

/-- A point out of hearing is UNKNOWN with a stopped timer; a lane that is not listening holds no frame and
runs no holdoff; and the two lanes of a JOINED pair are enabled together (R26, R124, R137, R139). -/
def State.hearingLegal (s : State) : Prop :=
  (∀ p : PointId, s.pointHeard p = false → s.records[p].condition = .unknown ∧ s.records[p].timer = none) ∧
    (∀ l : LaneId, s.listening l = false → s.lanes[l].fifo = [] ∧ s.lanes[l].frame = none ∧
      s.lanes[l].holdoffTimer = none) ∧
    ∀ k : PairId, s.pairs[k].mode = .joined →
      s.lanes[evenLane k].enabled = s.lanes[oddLane k].enabled

/-! ## The session and its queues (R129, R140, R149, R151, R155, R172, R174, R188) -/

/-- Every queue within its capacity, reservations counted as the Reply queue's room (R129, R140, R155,
R172, R174, R188). -/
def State.queuesLegal (s : State) : Prop :=
  s.out.alertQ.length ≤ Config.alertCapacity ∧
    s.out.replyQ.length + s.reservations ≤ Config.replyCapacity ∧
    s.out.dataQ.length ≤ Config.dataCapacity ∧ s.link.inbound.length ≤ Config.inboundCapacity ∧
    s.mgmt.cache.length ≤ Config.cacheCapacity ∧ (s.mgmt.cache.map (fun e => e.tag)).Nodup ∧
    (∀ l : LaneId, s.lanes[l].fifo.length ≤ Config.fifoCapacity) ∧
    ∀ k : PairId, s.pairs[k].relay.queue.length ≤ Config.relayCapacity

/-- While the link is not ACTIVE the three queues, the inbound queue and the stack are empty and nothing is
reserved; a reply is owed only with room reserved; the silence timer runs in ACTIVE alone and the wake
timer in WAKING alone (R97, R149, R151, R155). -/
def State.linkLegal (s : State) : Prop :=
  (s.link.state ≠ .active →
      s.out.alertQ = [] ∧ s.out.replyQ = [] ∧ s.out.dataQ = [] ∧ s.stack = [] ∧ s.link.inbound = [] ∧
        s.reservations = 0 ∧ s.link.silenceTimer = none) ∧
    (s.link.state ≠ .waking → s.link.wakeTimer = none) ∧
    (s.mgmt.tracker.replyOwed = true → s.mgmt.reservation = true)

/-- A session's queues and timers are legal (R149, R151, R172, R174). -/
def State.sessionLegal (s : State) : Prop := s.queuesLegal ∧ s.linkLegal

/-! ## Frames as nodes send them, and error counts (R130, R133, R200) -/

/-- A point record of a lane frame: the value, then the quality character with FAULT in bit 0 and HELD in
bit 1; the other six bits are whatever the node sends (R200). -/
def nodeRecordChars (r : Reading) (other : BitVec 6) : List Byte :=
  [r.value.extractLsb' 8 8, r.value.extractLsb' 0 8,
    other ++ BitVec.ofBool r.held ++ BitVec.ofBool r.fault]

/-- The characters of a frame after its start delimiter, CRC included, as a node sends them: header, two
characters, point records (R199, R200). -/
def nodeFrameChars (kind : BitVec 3) (node : NodeAddr) (second third : Byte) (records : List Byte) :
    List Byte :=
  let span : List Byte := (kind ++ BitVec.ofNat 5 node.val) :: second :: third :: records
  span ++ codeField (crc16 span)

/-- A lane's counters after a frame end in error: frames ended and the error's own class (R130, R133). -/
def errorCounters (c : LaneCounters) (v : FrameVerdict) : LaneCounters :=
  { c with
    framesEnded := c.framesEnded + 1
    lineErrors := if v = .lineError then c.lineErrors + 1 else c.lineErrors
    checkErrors := if v = .checkError then c.checkErrors + 1 else c.checkErrors
    formatErrors := if v = .formatError then c.formatErrors + 1 else c.formatErrors }

/-! ## The operations of R192 -/

/-- The row of the command table in which a request of this operation is taken (R187, R192). -/
def Operation.command (o : Operation) : Instr :=
  match o with
  | .readPoint => .readPoint | .writePoint => .writePoint | .readGroup => .readGroup
  | .writeGroup => .writeGroup | .clearShadow => .clearShadow | .copyActive => .copyActive
  | .commit => .commit | .readCondition => .readCondition | .setSlot => .setSlot
  | .readSlot => .readSlot | .clearSlot => .clearSlot | .setRoute => .setRoute
  | .alertDone => .alertDone | .readStack => .readStack | .setLane => .setLane
  | .readLane => .readLane | .clearLaneCounters => .clearLaneCounters | .setPair => .setPair
  | .relay => .relay | .triggerGroup => .triggerGroup | .setTrunk => .setTrunk
  | .enterDormant => .enterDormant | .readDevice => .readDevice | .restart => .restart

/-- The number of operand bytes of an operation with these operands: the widths of R198 added up, and for
RELAY four bytes and the payload its length byte announces (R192 test 2, R198, R201). -/
def Operation.operandCount (o : Operation) (operands : List Byte) : Nat :=
  match o with
  | .readPoint => 2 | .writePoint => 20 | .readGroup => 2 | .writeGroup => 7 | .clearShadow => 0
  | .copyActive => 0 | .commit => 2 | .readCondition => 2 | .setSlot => 3 | .readSlot => 1
  | .clearSlot => 1 | .setRoute => 2 | .alertDone => 1 | .readStack => 0 | .setLane => 6
  | .readLane => 1 | .clearLaneCounters => 1 | .setPair => 2 | .relay => 4 + numAt operands 3
  | .triggerGroup => 1 | .setTrunk => 6 | .enterDormant => 0 | .readDevice => 0 | .restart => 0

/-- The operations that name the map (R96, R192). -/
def mapOperations : List Operation :=
  [.readPoint, .writePoint, .readGroup, .writeGroup, .clearShadow, .copyActive, .commit]

/-! ## A request that is taken, and its reply (R187, R189) -/

/-- The Management Unit can take the request with this tag, operation code and operands from the front of
the inbound queue, and no cache entry answers it (R187, R189). -/
structure Takes (s : State) (tag op : Byte) (operands : List Byte) (rest : List (List Byte)) : Prop where
  released : s.inReset = false
  oldest : s.link.inbound = (tag :: op :: operands) :: rest
  room : 0 < s.replyFree
  fresh : cacheHit s.mgmt.cache tag op = none

/-- The state with the oldest request removed, its reply at the tail of the Reply queue, and its cache
entry DONE as the newest; nothing else is changed (R186, R189). -/
def replied (rest : List (List Byte)) (r : Reply) (s : State) : State :=
  { s with
    link := { s.link with inbound := rest }
    out := { s.out with replyQ := s.out.replyQ ++ [.reply r] }
    mgmt :=
      { s.mgmt with
        cache := cacheRoom s.mgmt.cache r.tag ++ [⟨r.tag, r.op, some r⟩] } }

/-- The command in which a request of this operation is taken answers it with this status and these results,
and leaves the state `t` but for the request's removal, the reply and its cache entry (R186, R189). -/
def Answers (o : Operation) (s : State) (tag : Tag) (rest : List (List Byte)) (status : Status)
    (results : List Byte) (t : State) : Prop :=
  exec o.command s = .next (replied rest ⟨tag, o.code, status, results⟩ t)

/-- The state after the end of a long map operation with this reply: the tracker at NONE, the reservation
ended, and, if the reply is owed, the reply placed and its IN_PROGRESS cache entry DONE with it (R95, R97,
R190). -/
def longOpEnded (r : Reply) (s : State) : State :=
  { s with
    out :=
      if s.mgmt.tracker.replyOwed then { s.out with replyQ := s.out.replyQ ++ [.reply r] } else s.out
    mgmt :=
      { s.mgmt with
        cache :=
          if s.mgmt.tracker.replyOwed then
            s.mgmt.cache.map fun e =>
              if e.tag = r.tag ∧ e.op = r.op ∧ e.reply = none then { e with reply := some r } else e
          else s.mgmt.cache
        tracker := ⟨.none, 0, .none, 0, false⟩
        reservation := false } }

/-- The number of the field that the first failing check of R5 names, from the nineteen bytes of R202; none
when every check passes. -/
def pointRefusal (b : List Byte) : Option Nat :=
  if 8 ≤ numAt b 1 then some 2
  else if 31 ≤ numAt b 2 then some 3
  else if 16 ≤ numAt b 3 then some 4
  else if 4 ≤ numAt b 4 then some 5
  else if 32768 ≤ wordAt b 5 then some 6
  else if 2 ≤ numAt b 7 then some 7
  else if (valueAt b 10).toInt < (valueAt b 8).toInt then some 9
  else if 4096 ≤ wordAt b 12 then some 10
  else if numAt b 7 = 0 ∧ (valueAt b 10).toInt - (valueAt b 8).toInt < 2 * (wordAt b 12 : Int) then
    some 10
  else if numAt b 14 = 0 ∨ 9 ≤ numAt b 14 then some 11
  else if 601 ≤ wordAt b 15 then some 12
  else if 16 ≤ numAt b 17 then some 13
  else if 32 ≤ numAt b 18 ∧ numAt b 18 ≠ 255 then some 14
  else none

/-- The number of the field that the first failing check of R8 names, from the six bytes of a group entry;
none when every check passes. -/
def groupRefusal (b : List Byte) : Option Nat :=
  if 4 ≤ numAt b 0 then some 2
  else if numAt b 2 = 0 ∨ 9 ≤ numAt b 2 then some 4
  else if 256 < numAt b 1 + numAt b 2 then some 4
  else if wordAt b 3 = 0 ∨ 36001 ≤ wordAt b 3 then some 5
  else if 8 ≤ numAt b 5 ∨ numAt b 2 ≤ numAt b 5 then some 6
  else none

/-- The characters of an inbound trunk message after its start delimiter, check code included (R199,
R201). -/
def inboundChars (kind : Byte) (payload : List Byte) : List Byte :=
  let span := kind :: BitVec.ofNat 8 payload.length :: payload
  span ++ codeField (crc16 span)

/-- Whether a slot is selectable: pending, UNMASKED, with no record in the stack, and of a level below the
service level (4.2). -/
def State.selectable (s : State) (k : SlotId) : Prop :=
  (s.slots[k].causes ≠ [] ∨ s.slots[k].overflow = true) ∧ s.slots[k].mask = .unmasked ∧
    (∀ r ∈ s.stack, r.slot ≠ k) ∧ s.slots[k].level.val < serviceLevel s.stack

/-- Whether an enable or a disable of lane `l` reaches lane `i`: the lane itself, or either lane of its
JOINED pair (R123, R124). -/
def State.reaches (s : State) (l i : LaneId) : Bool :=
  i == l || (s.joined l && pairOf i == pairOf l)

/-! ## Transmissions cut short (R144, R180, R204) -/

/-- A line finishes one character of a transmission of these characters cut short at `now`: some character of
it, and within the time of one character, ten bit times, in milliseconds counted (R144, R180, R204). Which
character and which millisecond is open. -/
def CutCharacter.finishes (c : CutCharacter) (now : Time) (bitsPerSecond : Nat) (chars : List Byte) : Prop :=
  c.character ∈ chars ∧ c.timer.start = now ∧ 1 ≤ c.timer.interval.toNat ∧
    c.timer.interval.toNat ≤ 10000 / bitsPerSecond + 2

/-- The lines `t` after an event that cuts short the message in transmission, if there is one (R180, R204). -/
def State.trunkCutTo (s : State) (t : CutLines) : Prop :=
  t.relays = s.cuts.relays ∧ (s.out.sending = none → t.trunk = s.cuts.trunk) ∧
    ∀ m, s.out.sending = some m →
      ∃ c, t.trunk = some c ∧ c.finishes s.deviceTime (Config.trunkRate s.trunkRate) m.chars

/-- What pair `k`'s line carries after an event that cuts short the frame in transmission, if there is one
(R144, R204). -/
def State.relayCutTo (s : State) (k : PairId) (t : CutLines) : Prop :=
  (s.pairs[k].relay.sending = none → t.relays[k] = s.cuts.relays[k]) ∧
    ∀ f, s.pairs[k].relay.sending = some f →
      ∃ c, t.relays[k] = some c ∧
        c.finishes s.deviceTime s.lanes[evenLane k].settings.bitRate.bitsPerSecond f.chars

/-! ## Reports and message layouts (R112, R201, R203) -/

/-- The member entries that a report of a group with these fields shows: one for each of its members in
ascending point id, ABSENT for an entry that is invalid or marked, otherwise the record's condition and last
value and an age of at most 65535 ms (R111, R112). -/
def State.showsMembers (s : State) (e : GroupEntry) (members : List ReportMember) : Prop :=
  members.length = e.length ∧
    ∀ (n : Nat) (h : n < members.length) (p : PointId), p = Fin.ofNat 256 (e.start.val + n) →
      members[n] =
        if pointUsable (s.activePoint p) then
          ⟨p, some s.records[p].condition, s.records[p].lastValue,
            s.records[p].lastSampleTime.map fun time => min (s.deviceTime - time).toNat 65535⟩
        else ⟨p, none, none, none⟩

/-- Sixteen bits as two bytes, most significant first (R198). -/
def bytes16 (v : BitVec 16) : List Byte := [v.extractLsb' 8 8, v.extractLsb' 0 8]

/-- Thirty-two bits as four bytes, most significant first (R198). -/
def bytes32 (v : BitVec 32) : List Byte :=
  [v.extractLsb' 24 8, v.extractLsb' 16 8, v.extractLsb' 8 8, v.extractLsb' 0 8]

/-- A cause entry in its two bytes: kind 0 and the point id, or kind 1 and the device cause code (R198). -/
def Cause.layout (c : Cause) : List Byte :=
  match c with
  | .point p => [0#8, BitVec.ofNat 8 p.val]
  | .device d => [1#8, BitVec.ofNat 8 d.code.val]

/-- A member entry in its eight bytes: point id, condition (ABSENT 5), last value and age, each behind its
presence byte (R201). -/
def ReportMember.layout (m : ReportMember) : List Byte :=
  BitVec.ofNat 8 m.point.val ::
    BitVec.ofNat 8 (match m.condition with | none => 5 | some c => c.code) ::
    ((match m.lastValue with | none => [0#8, 0#8, 0#8] | some v => 1#8 :: bytes16 v) ++
      match m.age with | none => [0#8, 0#8, 0#8] | some a => 1#8 :: bytes16 (BitVec.ofNat 16 a))

/-- The kind code and the payload of an outbound message, byte by byte (R201, R203, and the rule that lists
the message's fields). -/
def Message.layout (m : Message) : Byte × List Byte :=
  match m with
  | .attachReply a =>
    (0x81#8,
      [0x0A#8, 0x30#8, 0x01#8] ++ bytes16 a.generation ++
        [BitVec.ofNat 8 a.bank.code, BitVec.ofNat 8 a.cause.code] ++ bytes32 a.time ++
        [BitVec.ofNat 8 a.params.silenceTimeout, BitVec.ofNat 8 a.params.wakeInterval,
          BitVec.ofNat 8 a.params.wakeLimit] ++
        bytes16 (BitVec.ofNat 16 a.params.ackTimeout) ++ [BitVec.ofNat 8 a.params.retryLimit] ++
        [1#8, 0#8, 16#8, 32#8, 4#8, 4#8, 8#8, 4#8, 8#8, 4#8, 32#8, 4#8, 4#8, 8#8, 240#8])
  | .reply r => (0x82#8, r.tag :: r.op :: BitVec.ofNat 8 r.status.code :: r.results)
  | .relayDone d => (0x83#8, [d.tag, BitVec.ofNat 8 d.lane.val, BitVec.ofNat 8 d.outcome.code])
  | .data d =>
    (0x84#8,
      [BitVec.ofNat 8 d.point.val, BitVec.ofNat 8 d.condition.code,
        0#5 ++ BitVec.ofBool d.reading.held ++ BitVec.ofBool d.reading.fault ++ BitVec.ofBool d.transition,
        0#2 ++ d.sequence] ++ bytes16 d.reading.value ++ bytes32 d.time)
  | .unmatched u =>
    (0x85#8,
      [BitVec.ofNat 8 u.key.lane.val, BitVec.ofNat 8 u.key.node.val, BitVec.ofNat 8 u.key.index.val,
        0#2 ++ u.sequence] ++ bytes16 u.reading.value ++
        [0#7 ++ BitVec.ofBool u.reading.fault, 0#7 ++ BitVec.ofBool u.reading.held] ++ bytes32 u.time)
  | .report r =>
    (0x86#8,
      [BitVec.ofNat 8 r.group.val, BitVec.ofNat 8 r.origin.code] ++
        (match r.tag with | none => [0#8, 0#8] | some tag => [1#8, tag]) ++ bytes16 r.generation ++
        bytes32 r.time ++ BitVec.ofNat 8 r.members.length :: r.members.flatMap ReportMember.layout)
  | .alert a =>
    (0x87#8,
      [a.number, BitVec.ofNat 8 a.slot.val, BitVec.ofNat 8 a.level.val, BitVec.ofNat 8 a.repeatCount] ++
        bytes32 a.captureTime ++ [0#7 ++ BitVec.ofBool a.overflow, BitVec.ofNat 8 a.causes.length] ++
        a.causes.flatMap Cause.layout)
  | .lapse l =>
    (0x88#8,
      [l.number, BitVec.ofNat 8 l.slot.val, BitVec.ofNat 8 l.level.val, BitVec.ofNat 8 l.repeatCount] ++
        bytes32 l.time)
  | .wake w => (0x89#8, [BitVec.ofNat 8 w.number, BitVec.ofNat 8 w.level] ++ bytes32 w.time)

/-- The RELAY_DONE a relay frame of pair `k` gets at an outcome: one for a frame that holds a reservation,
none otherwise (R145). -/
def doneMessages (k : PairId) (outcome : RelayOutcome) (f : RelayFrame) : List Message :=
  if f.confirm = some .reserved then [.relayDone ⟨f.tag, evenLane k, outcome⟩] else []

end Sys2Proof.Machine
end

