-- ==== Sys2Proof/Certificates/Slice0/Obligations.lean ====
section
/-! DEFINITION. The statements about the block, for the provers: steps and reset, lanes, the Classifier,
slots, alerts, the map, reports, the trunk, management, and the laws every step keeps. -/

section

open Sys2Proof Sys2Proof.Machine

/-! ## Steps and reset -/

/-- A step with a command waiting runs the command at the front of the queue on the rest of it (the queue is
the model's own, notes/assumptions/2.md). -/
def Obligations.StepRunsFrontCommand : Prop :=
  ∀ (c : Instr) (rest : List Instr) (s : State),
    s.pending = c :: rest → step s = exec c { s with pending := rest }

/-- A step with no command waiting idles in reset; otherwise it takes the expiry of a timer that is due (a
point's, a group's, a lane's, an AWAITING record's, the silence timer's or the wake timer's), and only while
no timer is due does it count one millisecond, modulo 2^32, at which a line that has finished its character
of a transmission cut short becomes idle (the model's choices, notes/assumptions/5.md,
notes/assumptions/25.md). -/
def Obligations.EmptyQueueTakesDueExpiryOrCounts : Prop :=
  ∀ s : State, s.pending = [] →
    (s.inReset = true → step s = .next s) ∧
    (s.inReset = false → ∀ c, dueExpiry s = some c → step s = exec c s) ∧
    (∀ c, dueExpiry s = some c →
      (∃ p : PointId, c = .staleExpiry p ∧ timerDue s.deviceTime s.records[p].timer = true) ∨
      (∃ g : GroupId, c = .periodTimerExpiry g ∧ timerDue s.deviceTime s.periodTimers[g] = true) ∨
      (∃ l : LaneId, c = .holdoffExpiry l ∧ timerDue s.deviceTime s.lanes[l].holdoffTimer = true) ∨
      (∃ r ∈ s.stack, c = .acknowledgementTimerExpiry r.number ∧ r.state = .awaiting ∧
        timerDue s.deviceTime r.timer = true) ∨
      (c = .silenceTimerExpiry ∧ timerDue s.deviceTime s.link.silenceTimer = true) ∨
      (c = .wakeTimerExpiry ∧ timerDue s.deviceTime s.link.wakeTimer = true)) ∧
    (s.inReset = false → dueExpiry s = none →
      ∃ t, step s = .next t ∧ t = { s with deviceTime := s.deviceTime + 1, cuts := t.cuts } ∧
        (∀ c, t.cuts.trunk = some c ↔
          s.cuts.trunk = some c ∧ timerDue t.deviceTime (some c.timer) = false) ∧
        ∀ (k : PairId) c, t.cuts.relays[k] = some c ↔
          s.cuts.relays[k] = some c ∧ timerDue t.deviceTime (some c.timer) = false) ∧
    (dueExpiry s = none ↔
      (∀ p : PointId, timerDue s.deviceTime s.records[p].timer = false) ∧
      (∀ g : GroupId, timerDue s.deviceTime s.periodTimers[g] = false) ∧
      (∀ l : LaneId, timerDue s.deviceTime s.lanes[l].holdoffTimer = false) ∧
      (∀ r ∈ s.stack, r.state = .awaiting → timerDue s.deviceTime r.timer = false) ∧
      timerDue s.deviceTime s.link.silenceTimer = false ∧
      timerDue s.deviceTime s.link.wakeTimer = false)

/-- Every command completes with a next state, leaves the waiting commands alone, and, unless it is a cold
reset or its release, leaves device time, the trunk rate and the hold as they are; and while the part is
held in cold reset such a command leaves every block at the state the reset gave it. (That no event reaches
a held part is the model's choice, notes/assumptions/3.md.) -/
def Obligations.CommandsCompleteAndTheHeldPartIgnoresThem : Prop :=
  (∀ (i : Instr) (s : State), ∃ t, exec i s = .next t ∧ t.pending = s.pending ∧
     ((∀ c, i ≠ .coldReset c) → (∀ straps, i ≠ .resetRelease straps) →
       t.deviceTime = s.deviceTime ∧ t.trunkRate = s.trunkRate ∧ t.inReset = s.inReset)) ∧
  (∀ (i : Instr) (s : State), s.inReset = true → (∀ c, i ≠ .coldReset c) →
     (∀ straps, i ≠ .resetRelease straps) → exec i s = .next s)

/-- A cold reset, in whatever state it falls, leaves every block at the manual's value: map, records,
slots, routing, stack, lanes, pairs, link, outbound side, Management Unit and period timers; TTXD and every
LTX idle at once, whatever was in transmission, and every LDE is low. (That device time stands at 0 while the part is held is the model's reading, notes/assumptions/16.md.) -/
def Obligations.ColdResetSetsEveryBlock : Prop :=
  ∀ (c : ResetCause) (s : State), ∃ t, exec (.coldReset c) s = .next t ∧ t.inReset = true ∧
    t.deviceTime = 0 ∧
    (t.map.active = .a ∧ t.map.generation = 0 ∧ t.map.keyIndex = [] ∧
      (∀ name, (∀ p : PointId, (t.map.bank name).points[p] =
          ⟨PointEntry.invalid, crc16 PointEntry.invalid.bytes, false⟩) ∧
        ∀ g : GroupId, (t.map.bank name).groups[g] =
          ⟨GroupEntry.groupOff, crc16 GroupEntry.groupOff.bytes, false⟩) ∧
      (∀ key, lookup key t = (t, none)) ∧ ∀ g : GroupId, (t.activeGroup g).entry.trigger = .off) ∧
    ((∀ p : PointId, t.records[p] = RuntimeRecord.cleared) ∧ t.servicePointer = 7 ∧
      ∀ g : GroupId, t.periodTimers[g] = none) ∧
    (t.slots[(0 : SlotId)] = ⟨0, .unmasked, [.device .restarted], false⟩ ∧
      (∀ k : SlotId, k ≠ 0 → t.slots[k] = ⟨3, .masked, [], false⟩) ∧
      ∀ d : DeviceCause, t.routing[d.code] = some 0) ∧
    (t.stack = [] ∧ t.alertCounter = 0 ∧ t.wakeDemand = true) ∧
    ((∀ l : LaneId, t.lanes[l].settings = ⟨.r19200, 4, 10, .discard⟩ ∧ t.lanes[l].state = .disabled ∧
        t.lanes[l].frame = none ∧ t.lanes[l].holdoffElapsed = false ∧ t.lanes[l].errors = 0 ∧
        t.lanes[l].holdoffTimer = none ∧ t.lanes[l].fifo = [] ∧
        t.lanes[l].counters = ⟨0, 0, 0, 0, 0, 0, 0, 0⟩ ∧ t.listening l = false) ∧
      ∀ k : PairId, t.pairs[k] = ⟨.split, ⟨.idle, none, []⟩⟩) ∧
    t.link =
      { state := .offline, silenceTimer := none, wakeTimer := none, wakeCount := 0,
        restartCause := (match c with | .powerOn => .powerOn | .resetLine => .resetLine),
        receiver := none, inbound := [], params := ⟨10, 5, 6, 20, 3⟩, counters := ⟨0, 0, 0, 0, 0⟩ } ∧
    t.out =
      { alertQ := [], replyQ := [], dataQ := [], sending := none, wakeOffer := none, loss := 0,
        absorbed := 0, lapseNotSent := 0 } ∧
    t.mgmt = { cache := [], tracker := ⟨.none, 0, .none, 0, false⟩, reservation := false,
               shortRequests := 0 } ∧
    (t.cuts.trunk = none ∧ t.ttxd = [] ∧
      ∀ k : PairId, t.cuts.relays[k] = none ∧ t.ltx k = [] ∧ t.lde k = false)

/-- The release of a held part starts device time from 0 and samples the straps, whose code fixes the trunk
bit rate; a part that is not held is not changed by it. (A release that ends no reset changes nothing: the
model's choice, notes/assumptions/3.md.) -/
def Obligations.ResetReleaseStartsTimeAndSamplesStraps : Prop :=
  (∀ (straps : Fin 8) (s : State), s.inReset = true →
    exec (.resetRelease straps) s =
      .next { s with inReset := false, deviceTime := 0, trunkRate := straps }) ∧
  (∀ (straps : Fin 8) (s : State), s.inReset = false → exec (.resetRelease straps) s = .next s) ∧
  (List.ofFn Config.trunkRate = [1200, 2400, 4800, 9600, 19200, 38400, 57600, 115200])

/-- The completion of a restart reply restarts every block: the map, the trunk parameters, lane settings,
enables, pair modes, slot levels and masks and the routing are kept, and everything else takes its warm
restart value, RESTARTED standing in its routed slot; a relay frame in transmission is cut off. (That its line
finishes the character in progress, as at a disable, is the model's reading, notes/assumptions/25.md.) -/
def Obligations.RestartReplyCompletionRestartsEveryBlock : Prop :=
  ∀ (s : State) (r : Reply), s.inReset = false → s.out.sending = some (.reply r) → r.status = .ok →
    r.op = 24#8 → ∃ t, exec .transmissionCompletion s = .next t ∧
    t.map = { s.map with partialIndex := [] } ∧ t.routing = s.routing ∧ t.deviceTime = s.deviceTime ∧
    (∀ p : PointId, t.records[p] =
      { RuntimeRecord.cleared with
        timer :=
          if pointUsable (s.activePoint p) ∧ 0 < (s.activePoint p).entry.staleLimit ∧
              s.listening (s.activePoint p).entry.lane then
            some ⟨s.deviceTime, BitVec.ofNat 32 ((s.activePoint p).entry.staleLimit * 100)⟩
          else none }) ∧
    t.servicePointer = 7 ∧
    (∀ g : GroupId, t.periodTimers[g] =
      if (s.activeGroup g).entry.trigger = .periodic ∧ (s.activeGroup g).mark = false then
        some ⟨s.deviceTime, BitVec.ofNat 32 ((s.activeGroup g).entry.period * 100)⟩
      else none) ∧
    (∀ k : SlotId, t.slots[k] =
      { s.slots[k] with
        causes := if s.routing[DeviceCause.restarted.code] = some k then [.device .restarted] else []
        overflow := false }) ∧
    t.stack = [] ∧ t.alertCounter = 0 ∧
    (∀ l : LaneId, t.lanes[l] =
      { settings := s.lanes[l].settings
        state := if s.lanes[l].state = .disabled then .disabled else .hunt
        frame := none, holdoffElapsed := false, errors := 0, holdoffTimer := none, fifo := []
        counters := ⟨0, 0, 0, 0, 0, 0, 0, 0⟩ }) ∧
    (∀ k : PairId, t.pairs[k] = ⟨s.pairs[k].mode, ⟨.idle, none, []⟩⟩) ∧
    t.link =
      { state := .offline, silenceTimer := none, wakeTimer := none, wakeCount := 0,
        restartCause := .restartRequest, receiver := none, inbound := [], params := s.link.params,
        counters := ⟨0, 0, 0, 0, 0⟩ } ∧
    t.out =
      { alertQ := [], replyQ := [], dataQ := [], sending := none, wakeOffer := none, loss := 0,
        absorbed := 0, lapseNotSent := 0 } ∧
    t.mgmt = { cache := [], tracker := ⟨.none, 0, .none, 0, false⟩, reservation := false,
               shortRequests := 0 } ∧
    t.cuts.trunk = s.cuts.trunk ∧ ∀ k : PairId, s.relayCutTo k t.cuts

/-! ## Field lanes -/

/-- A start delimiter begins a frame on a lane in HUNT, which enters RECEIVING, and on a lane in SUSPENDED
with no frame in progress; in every other case, and on the even lane of a JOINED pair, it begins none. (That
within a frame it leaves the state as it was, the frame's characters coming with its end, is the model's
choice, notes/assumptions/11.md.) -/
def Obligations.StartDelimiterBeginsFrame : Prop :=
  ∀ (l : LaneId) (s : State), s.inReset = false →
    (s.transmitting l = true → exec (.laneFrameBegin l) s = .next s) ∧
    (s.transmitting l = false → s.lanes[l].state = .hunt →
      exec (.laneFrameBegin l) s =
        .next (s.setLane l { s.lanes[l] with state := .receiving, frame := some [] })) ∧
    (s.transmitting l = false → s.lanes[l].state = .suspended → s.lanes[l].frame = none →
      exec (.laneFrameBegin l) s = .next (s.setLane l { s.lanes[l] with frame := some [] })) ∧
    (∀ chars, s.lanes[l].state = .suspended → s.lanes[l].frame = some chars →
      exec (.laneFrameBegin l) s = .next s) ∧
    (s.lanes[l].state = .receiving ∨ s.lanes[l].state = .disabled →
      exec (.laneFrameBegin l) s = .next s)

/-- Every SAMPLE and every BURST of two to four points that a node numbered 0..30 sends is judged good and
read back field by field, whatever stands in the ignored bits; addressed from node 31 it is a format error. -/
def Obligations.NodeFramesReadBack : Prop :=
  ∀ (now : Time) (node : NodeAddr) (q : Sequence) (i : PointIndex) (high : BitVec 4),
    (∀ (top : BitVec 2) (r : Reading) (other : BitVec 6),
      judgeFrame now
          (nodeFrameChars 1#3 node (top ++ q) (high ++ BitVec.ofNat 4 i.val)
            (nodeRecordChars r other)) =
        if node.val ≤ 30 then .good ⟨node, q, i, [r], now⟩ else .formatError) ∧
    (∀ (rs : List (Reading × BitVec 6)), 2 ≤ rs.length → rs.length ≤ 4 → i.val + rs.length ≤ 16 →
      judgeFrame now
          (nodeFrameChars 2#3 node (BitVec.ofNat 2 (rs.length - 1) ++ q)
            (high ++ BitVec.ofNat 4 i.val) (rs.flatMap fun x => nodeRecordChars x.1 x.2)) =
        if node.val ≤ 30 then .good ⟨node, q, i, rs.map (fun x => x.1), now⟩ else .formatError)

/-- The judgement of a frame end: a framing fault is a line error and over-length a format error; at an idle
gap fewer than 8 characters are a format error, then a disagreeing CRC a check error, and only then a kind
other than SAMPLE and BURST or node 31 a format error. -/
def Obligations.FrameJudgementOrder : Prop :=
  ∀ (now : Time) (chars : List Byte),
    frameVerdict .framingFault now chars = .lineError ∧
    frameVerdict .overLength now chars = .formatError ∧
    (chars.length < 8 → frameVerdict .idleGap now chars = .formatError) ∧
    (∀ span code, chars = span ++ code → code.length = 2 → 8 ≤ chars.length →
      (code ≠ codeField (crc16 span) → frameVerdict .idleGap now chars = .checkError) ∧
      (code = codeField (crc16 span) →
        ∀ header second third records, span = header :: second :: third :: records →
          (header.toNat / 32 ≠ 1 ∧ header.toNat / 32 ≠ 2 →
            frameVerdict .idleGap now chars = .formatError) ∧
          (header.toNat % 32 = 31 → frameVerdict .idleGap now chars = .formatError) ∧
          (header.toNat / 32 = 2 → second.toNat / 64 = 0 →
            frameVerdict .idleGap now chars = .formatError) ∧
          (header.toNat / 32 = 2 → 15 < third.toNat % 16 + second.toNat / 64 →
            frameVerdict .idleGap now chars = .formatError) ∧
          (header.toNat / 32 = 1 → chars.length ≠ 8 →
            frameVerdict .idleGap now chars = .formatError) ∧
          (header.toNat / 32 = 2 → chars.length ≠ 5 + 3 * (second.toNat / 64 + 1) →
            frameVerdict .idleGap now chars = .formatError)))

/-- A frame end in RECEIVING: a good frame joins the FIFO or is an overrun; an error is counted in its
class and toward suspension, and at the threshold the lane is SUSPENDED with its holdoff timer started and
LANE_SUSPENDED_n raised; nothing else is changed. (The frame's characters come with its end: the model's
choice, notes/assumptions/11.md.) -/
def Obligations.FrameEndInReceivingJudgesTheFrame : Prop :=
  ∀ (l : LaneId) (cause : FrameEndCause) (chars : List Byte) (s : State), s.inReset = false →
    s.lanes[l].state = .receiving → s.lanes[l].frame = some [] → frameCharsAgree cause chars = true →
    (∀ f, frameVerdict cause s.deviceTime chars = .good f → s.lanes[l].fifo.length < 4 →
      exec (.frameEnd l cause chars) s =
        .next (s.setLane l
          { s.lanes[l] with
            state := .hunt, frame := none, errors := 0, fifo := s.lanes[l].fifo ++ [f]
            counters :=
              { s.lanes[l].counters with
                framesEnded := s.lanes[l].counters.framesEnded + 1
                accepted := s.lanes[l].counters.accepted + 1 } })) ∧
    (∀ f, frameVerdict cause s.deviceTime chars = .good f → 4 ≤ s.lanes[l].fifo.length →
      exec (.frameEnd l cause chars) s =
        .next (s.setLane l
          { s.lanes[l] with
            state := .hunt, frame := none
            counters :=
              { s.lanes[l].counters with
                framesEnded := s.lanes[l].counters.framesEnded + 1
                overruns := s.lanes[l].counters.overruns + 1 } })) ∧
    (∀ v, frameVerdict cause s.deviceTime chars = v → (∀ f, v ≠ .good f) →
      (s.lanes[l].errors + 1 ≠ s.lanes[l].settings.threshold →
        exec (.frameEnd l cause chars) s =
          .next (s.setLane l
            { s.lanes[l] with
              state := .hunt, frame := none, errors := s.lanes[l].errors + 1
              counters := errorCounters s.lanes[l].counters v })) ∧
      (s.lanes[l].errors + 1 = s.lanes[l].settings.threshold →
        exec (.frameEnd l cause chars) s =
          .next (raiseDevice (.laneSuspended l) (s.setLane l
            { s.lanes[l] with
              state := .suspended, frame := none, errors := s.lanes[l].errors + 1
              holdoffElapsed := false
              holdoffTimer :=
                some ⟨s.deviceTime, BitVec.ofNat 32 (s.lanes[l].settings.holdoff * 100)⟩
              counters := errorCounters s.lanes[l].counters v }))))

/-- A frame end in SUSPENDED, however the frame ended and whatever it held, is a suspended drop that
changes only its two counters; with holdoff elapsed the lane enters HUNT with the count 0. At a holdoff
expiry the timer stops; with no frame in progress the lane enters HUNT with the count 0, otherwise holdoff
elapsed becomes yes; nothing else is changed, and no expiry occurs before the timer's time. (A command
before its timer's time changes nothing, and the frame's characters come with its end: the model's choices,
notes/assumptions/3.md, notes/assumptions/11.md.) -/
def Obligations.SuspensionDropsFramesAndEndsAfterItsHoldoff : Prop :=
  (∀ (l : LaneId) (cause : FrameEndCause) (chars : List Byte) (s : State), s.inReset = false →
     s.lanes[l].state = .suspended → s.lanes[l].frame = some [] → frameCharsAgree cause chars = true →
     exec (.frameEnd l cause chars) s =
       .next (s.setLane l
         { s.lanes[l] with
           state := if s.lanes[l].holdoffElapsed then .hunt else .suspended
           frame := none
           errors := if s.lanes[l].holdoffElapsed then 0 else s.lanes[l].errors
           holdoffElapsed := false
           counters :=
             { s.lanes[l].counters with
               framesEnded := s.lanes[l].counters.framesEnded + 1
               suspendedDrops := s.lanes[l].counters.suspendedDrops + 1 } })) ∧
  (∀ (l : LaneId) (s : State), s.inReset = false →
     (timerDue s.deviceTime s.lanes[l].holdoffTimer = true →
       (s.lanes[l].frame = none →
         exec (.holdoffExpiry l) s =
           .next (s.setLane l { s.lanes[l] with holdoffTimer := none, state := .hunt, errors := 0 })) ∧
       (s.lanes[l].frame ≠ none →
         exec (.holdoffExpiry l) s =
           .next (s.setLane l { s.lanes[l] with holdoffTimer := none, holdoffElapsed := true }))) ∧
     (timerDue s.deviceTime s.lanes[l].holdoffTimer = false →
       exec (.holdoffExpiry l) s = .next s))

/-- SET_LANE checks its operands in the order of R122 and refuses the first failure, changing nothing: a
lane above 7, each setting out of its range, and, on an enabled lane, the first setting that differs. (That
LANE_ACTIVE names the setting by its field number is the model's choice, notes/assumptions/23.md.) -/
def Obligations.SetLaneChecksInOrder : Prop :=
  ∀ (s : State) (tag : Tag) (b0 b1 b2 b3 b4 b5 : Byte) (rest : List (List Byte)),
    Takes s tag 15#8 [b0, b1, b2, b3, b4, b5] rest →
    (8 ≤ b0.toNat → Answers .setLane s tag rest .badIndex [b0] s) ∧
    (b0.toNat < 8 → 2 ≤ b1.toNat → Answers .setLane s tag rest .badValue [2#8] s) ∧
    (b0.toNat < 8 → b1.toNat < 2 →
      (5 ≤ b2.toNat → Answers .setLane s tag rest .badValue [3#8] s) ∧
      (b2.toNat < 5 → (b3.toNat = 0 ∨ 15 < b3.toNat) →
        Answers .setLane s tag rest .badValue [4#8] s) ∧
      (b2.toNat < 5 → 1 ≤ b3.toNat → b3.toNat ≤ 15 → b4.toNat = 0 →
        Answers .setLane s tag rest .badValue [5#8] s) ∧
      (b2.toNat < 5 → 1 ≤ b3.toNat → b3.toNat ≤ 15 → 1 ≤ b4.toNat → 2 ≤ b5.toNat →
        Answers .setLane s tag rest .badValue [6#8] s)) ∧
    (∀ (l : LaneId) (on : Bool) (new : LaneSettings),
      b0 = BitVec.ofNat 8 l.val → b1 = BitVec.ofNat 8 (enableCode on) →
      b2 = BitVec.ofNat 8 new.bitRate.code → b3.toNat = new.threshold → b4.toNat = new.holdoff →
      b5 = BitVec.ofNat 8 new.unmatched.code → 1 ≤ new.threshold → new.threshold ≤ 15 →
      1 ≤ new.holdoff → s.lanes[l].state ≠ .disabled → new ≠ s.lanes[l].settings →
      Answers .setLane s tag rest .laneActive
        (if new.bitRate ≠ s.lanes[l].settings.bitRate then [3#8]
          else if new.threshold ≠ s.lanes[l].settings.threshold then [4#8]
          else if new.holdoff ≠ s.lanes[l].settings.holdoff then [5#8]
          else [6#8]) s)

/-- SET_LANE that passes its checks: a DISABLED lane takes the four settings, and with enable ON it and the
other lane of its JOINED pair enter HUNT with everything cleared and their listening points' timers
started; an enabled lane with enable ON is untouched; with enable OFF the lane, or its SPLIT pair's lane
alone, is disabled and its points become UNKNOWN. (Which points the lane's own are, and how the absent
partner is encoded, are the model's readings, notes/assumptions/7.md, notes/assumptions/6.md.) -/
def Obligations.SetLaneWritesEnablesAndDisables : Prop :=
  ∀ (s : State) (tag : Tag) (l : LaneId) (on : Bool) (new : LaneSettings) (rest : List (List Byte)),
    1 ≤ new.threshold → new.threshold ≤ 15 → 1 ≤ new.holdoff → new.holdoff ≤ 255 →
    Takes s tag 15#8
      (u8 l.val ++ u8 (enableCode on) ++ u8 new.bitRate.code ++ u8 new.threshold ++ u8 new.holdoff ++
        u8 new.unmatched.code) rest →
    (s.lanes[l].state = .disabled ∨ new = s.lanes[l].settings) →
    (on = true ∨ s.lanes[l].state = .disabled ∨ s.joined l = false) →
    ∃ t : State,
      Answers .setLane s tag rest .ok
        (u8 l.val ++ u8 (enableCode on) ++ u8 new.bitRate.code ++ u8 new.threshold ++ u8 new.holdoff ++
          u8 new.unmatched.code ++ u8 t.lanes[l].state.code ++
          (if s.joined l then
              1#8 :: u8 (partner l).val ++ 1#8 :: u8 t.lanes[partner l].state.code
            else [0#8, 0#8, 0#8, 0#8])) t ∧
      (∀ i : LaneId, t.lanes[i] =
        if s.lanes[l].state = .disabled then
          if on ∧ s.reaches l i then
            ⟨if i = l then new else s.lanes[i].settings, .hunt, none, false, 0, none, [],
              ⟨0, 0, 0, 0, 0, 0, 0, 0⟩⟩
          else { s.lanes[i] with settings := if i = l then new else s.lanes[i].settings }
        else if on = false ∧ i = l then
          ⟨s.lanes[i].settings, .disabled, none, false, 0, none, [], s.lanes[i].counters⟩
        else s.lanes[i]) ∧
      (∀ p : PointId, t.records[p] =
        if s.lanes[l].state = .disabled then
          if on ∧ pointUsable (s.activePoint p) ∧ 0 < (s.activePoint p).entry.staleLimit ∧
              s.reaches l (s.activePoint p).entry.lane ∧
              s.transmitting (s.activePoint p).entry.lane = false ∧
              s.records[p].condition ≠ .stale then
            { s.records[p] with
              timer := some ⟨s.deviceTime,
                BitVec.ofNat 32 ((s.activePoint p).entry.staleLimit * 100)⟩ }
          else s.records[p]
        else if on = false ∧ (s.activePoint p).entry.valid ∧ (s.activePoint p).entry.lane = l then
          { s.records[p] with condition := .unknown, vote := 0, timer := none, lastSequence := none }
        else s.records[p]) ∧
      t = { s with
        lanes := t.lanes
        records := t.records
        pairs :=
          if s.lanes[l].state = .disabled ∧ on ∧ s.joined l then
            rowSet s.pairs (pairOf l) ⟨s.pairs[pairOf l].mode, ⟨.idle, none, []⟩⟩
          else s.pairs }

/-- SET_LANE with enable OFF on an enabled lane of a JOINED pair disables both lanes in one event; its
relay frames end with outcomes ABANDONED, the one in transmission, then DISCARDED, oldest first: a reserved
one gets its RELAY_DONE ahead of the reply, a cancelled one is counted absorbed; the reply carries the lane
with its settings, enable OFF and state DISABLED, and the partner lane, DISABLED too. LTX finishes the
character in progress of a frame in transmission, within the time of one character, with LDE low. (Which
points the lanes' own are, how the partner is encoded, and how the character's time is counted are the model's
readings, notes/assumptions/7.md, notes/assumptions/6.md, notes/assumptions/25.md.) -/
def Obligations.JoinedDisableDisposesRelayFrames : Prop :=
  ∀ (s : State) (tag : Tag) (l : LaneId) (rest : List (List Byte)),
    1 ≤ s.lanes[l].settings.threshold → s.lanes[l].settings.threshold ≤ 15 →
    1 ≤ s.lanes[l].settings.holdoff → s.lanes[l].settings.holdoff ≤ 255 →
    s.lanes[l].state ≠ .disabled → s.joined l = true →
    Takes s tag 15#8
      (u8 l.val ++ u8 (enableCode false) ++ u8 s.lanes[l].settings.bitRate.code ++
        u8 s.lanes[l].settings.threshold ++ u8 s.lanes[l].settings.holdoff ++
        u8 s.lanes[l].settings.unmatched.code) rest →
    ∃ t : State,
      Answers .setLane s tag rest .ok
        (u8 l.val ++ [1#8] ++ u8 s.lanes[l].settings.bitRate.code ++ u8 s.lanes[l].settings.threshold ++
          u8 s.lanes[l].settings.holdoff ++ u8 s.lanes[l].settings.unmatched.code ++ [0#8] ++
          [1#8] ++ u8 (partner l).val ++ [1#8, 0#8]) t ∧
      (∀ i : LaneId, t.lanes[i] =
        if pairOf i = pairOf l then
          ⟨s.lanes[i].settings, .disabled, none, false, 0, none, [], s.lanes[i].counters⟩
        else s.lanes[i]) ∧
      (∀ p : PointId, t.records[p] =
        if (s.activePoint p).entry.valid ∧ pairOf (s.activePoint p).entry.lane = pairOf l then
          { s.records[p] with condition := .unknown, vote := 0, timer := none, lastSequence := none }
        else s.records[p]) ∧
      t = { s with
        lanes := t.lanes
        records := t.records
        pairs := rowSet s.pairs (pairOf l) ⟨s.pairs[pairOf l].mode, ⟨.idle, none, []⟩⟩
        out :=
          { s.out with
            replyQ :=
              s.out.replyQ ++
                s.pairs[pairOf l].relay.sending.toList.flatMap
                  (doneMessages (pairOf l) .abandoned) ++
                s.pairs[pairOf l].relay.queue.flatMap (doneMessages (pairOf l) .discarded)
            absorbed :=
              s.out.absorbed + BitVec.ofNat 32
                (s.pairs[pairOf l].relay.frames.countP (fun f => f.confirm == some .cancelled)) }
        cuts := t.cuts } ∧
      t.cuts.trunk = s.cuts.trunk ∧ s.relayCutTo (pairOf l) t.cuts ∧
      (∀ k : PairId, k ≠ pairOf l → t.cuts.relays[k] = s.cuts.relays[k]) ∧
      t.lde (pairOf l) = false ∧
      t.ltx (pairOf l) = (t.cuts.relays[pairOf l].map CutCharacter.character).toList

/-- READ_LANE answers the lane record, its pair's mode and, for the even lane of a JOINED pair, the Relay
Transmitter's figures, changing nothing; CLEAR_LANE_COUNTERS answers the eight counters as they stand and
sets them to 0; a lane above 7 is BAD_INDEX. SET_PAIR: a pair above 3 is BAD_INDEX, a mode that is neither
is BAD_VALUE naming mode, a pair with an enabled lane is LANE_ACTIVE naming the first; otherwise the mode
alone is changed and the reply carries the pair and its mode. (How the fields that a lane may lack are
encoded, and that holdoff elapsed is a yes/no byte, 1 for yes, are the model's readings,
notes/assumptions/6.md; no rule states them.) -/
def Obligations.LaneReadsCounterClearAndPairMode : Prop :=
  (∀ (s : State) (tag : Tag) (b : Byte) (rest : List (List Byte)),
     (8 ≤ b.toNat →
       (Takes s tag 16#8 [b] rest → Answers .readLane s tag rest .badIndex [b] s) ∧
       (Takes s tag 17#8 [b] rest → Answers .clearLaneCounters s tag rest .badIndex [b] s)) ∧
     (∀ l : LaneId, b.toNat = l.val →
       (Takes s tag 16#8 [b] rest →
         Answers .readLane s tag rest .ok
           ([b] ++ u8 (enableCode s.lanes[l].enabled) ++ u8 s.lanes[l].settings.bitRate.code ++
             u8 s.lanes[l].settings.threshold ++ u8 s.lanes[l].settings.holdoff ++
             u8 s.lanes[l].settings.unmatched.code ++ u8 s.pairs[pairOf l].mode.code ++
             (if s.joined l then [1#8, if isEven l then 0#8 else 1#8] else [0#8, 0#8]) ++
             u8 s.lanes[l].state.code ++ yesNo s.lanes[l].holdoffElapsed ++ u8 s.lanes[l].errors ++
             timerField s.deviceTime s.lanes[l].holdoffTimer ++ u8 s.lanes[l].fifo.length ++
             s.lanes[l].counters.field ++
             (if s.transmitting l then
                 1#8 :: u8 s.pairs[pairOf l].relay.state.code ++
                   1#8 :: u8 s.pairs[pairOf l].relay.queue.length ++
                   1#8 :: u8 s.pairs[pairOf l].relay.reserved
               else [0#8, 0#8, 0#8, 0#8, 0#8, 0#8])) s) ∧
       (Takes s tag 17#8 [b] rest →
         Answers .clearLaneCounters s tag rest .ok
           ([b] ++ u32 s.lanes[l].counters.framesEnded ++ u32 s.lanes[l].counters.accepted ++
             u32 s.lanes[l].counters.lineErrors ++ u32 s.lanes[l].counters.checkErrors ++
             u32 s.lanes[l].counters.formatErrors ++ u32 s.lanes[l].counters.overruns ++
             u32 s.lanes[l].counters.suspendedDrops ++ u32 s.lanes[l].counters.unmatched)
           (s.setLane l { s.lanes[l] with counters := ⟨0, 0, 0, 0, 0, 0, 0, 0⟩ })))) ∧
  (∀ (s : State) (tag : Tag) (b0 b1 : Byte) (rest : List (List Byte)),
     Takes s tag 18#8 [b0, b1] rest →
     (4 ≤ b0.toNat → Answers .setPair s tag rest .badIndex [b0] s) ∧
     (b0.toNat < 4 → 2 ≤ b1.toNat → Answers .setPair s tag rest .badValue [2#8] s) ∧
     ∀ (k : PairId) (mode : PairMode), b0.toNat = k.val → b1 = BitVec.ofNat 8 mode.code →
       (s.lanes[evenLane k].state ≠ .disabled →
         Answers .setPair s tag rest .laneActive (u8 (2 * k.val)) s) ∧
       (s.lanes[evenLane k].state = .disabled → s.lanes[oddLane k].state ≠ .disabled →
         Answers .setPair s tag rest .laneActive (u8 (2 * k.val + 1)) s) ∧
       (s.lanes[evenLane k].state = .disabled → s.lanes[oddLane k].state = .disabled →
         Answers .setPair s tag rest .ok [b0, b1] (s.setPair k { s.pairs[k] with mode := mode })))

/-- RELAY checks lane, node, payload length, confirm, lane mode, enable, the relay queue and the Reply
queue's room in the order of R141, and otherwise places one relay frame at the tail of the pair's queue,
reserving a Reply queue entry when confirm is YES. -/
def Obligations.RelayChecksAndQueuesOneFrame : Prop :=
  ∀ (s : State) (tag : Tag) (b0 b1 b2 b3 : Byte) (payload : List Byte) (rest : List (List Byte)),
    payload.length = b3.toNat → Takes s tag 19#8 (b0 :: b1 :: b2 :: b3 :: payload) rest →
    (8 ≤ b0.toNat → Answers .relay s tag rest .badIndex [b0] s) ∧
    (b0.toNat < 8 → 31 < b1.toNat → Answers .relay s tag rest .badValue [2#8] s) ∧
    (b0.toNat < 8 → b1.toNat ≤ 31 → (b3.toNat = 0 ∨ 32 < b3.toNat) →
      Answers .relay s tag rest .badValue [4#8] s) ∧
    (b0.toNat < 8 → b1.toNat ≤ 31 → 1 ≤ b3.toNat → b3.toNat ≤ 32 → 2 ≤ b2.toNat →
      Answers .relay s tag rest .badValue [3#8] s) ∧
    ∀ (l : LaneId) (node : NodeAddr) (confirm : Bool), b0.toNat = l.val → b1.toNat = node.val →
      1 ≤ b3.toNat → b3.toNat ≤ 32 → b2 = BitVec.ofNat 8 confirm.toNat →
      (s.transmitting l = false → Answers .relay s tag rest .laneMode [b0] s) ∧
      (s.transmitting l = true →
        (s.lanes[l].state = .disabled → Answers .relay s tag rest .laneDisabled [b0] s) ∧
        (s.lanes[l].state ≠ .disabled →
          (4 ≤ s.pairs[pairOf l].relay.queue.length →
            Answers .relay s tag rest .queueFull [0#8] s) ∧
          (s.pairs[pairOf l].relay.queue.length < 4 →
            (confirm = true → s.replyFree < 2 → Answers .relay s tag rest .queueFull [1#8] s) ∧
            ((confirm = false ∨ 2 ≤ s.replyFree) →
              Answers .relay s tag rest .ok
                ([b0, b1] ++ u8 (s.pairs[pairOf l].relay.queue.length + 1) ++ [b2])
                (s.setPair (pairOf l)
                  { s.pairs[pairOf l] with
                    relay :=
                      { s.pairs[pairOf l].relay with
                        queue :=
                          s.pairs[pairOf l].relay.queue ++
                            [⟨tag, node, payload, if confirm then some .reserved else none⟩] } })))))

/-- A Relay Transmitter's transmissions: the start takes the oldest frame of a working IDLE transmitter,
whose characters then drive the pair's LTX with LDE high; the completion leaves GAP with the frame's
RELAY_DONE placed, counted absorbed, or nothing, by its confirmation state; the gap's end leaves IDLE. With
no frame in transmission LTX idles but for the character of a frame cut short that it still finishes, which a
start finds finished (the model's reading, notes/assumptions/25.md), and it idles while the pair is SPLIT. -/
def Obligations.RelayTransmissionRunsStartCompletionGap : Prop :=
  ∀ (k : PairId) (s : State), s.inReset = false →
    (∀ f queue, s.pairs[k].mode = .joined → s.lanes[evenLane k].state ≠ .disabled →
      s.pairs[k].relay.state = .idle → s.pairs[k].relay.queue = f :: queue →
      ∃ t, exec (.relayTransmissionStart k) s = .next t ∧
        t = { s.setPair k { s.pairs[k] with relay := ⟨.sending, some f, queue⟩ } with
                cuts := { s.cuts with relays := rowSet s.cuts.relays k none } } ∧
        t.lde k = true ∧
        t.ltx k =
          0xC3#8 :: (f.span ++ codeField (crc16 f.span)) ∧
        f.span = (3#3 ++ BitVec.ofNat 5 f.node.val) :: BitVec.ofNat 8 f.payload.length :: f.payload) ∧
    (∀ f, s.pairs[k].relay.state = .sending → s.pairs[k].relay.sending = some f →
      exec (.relayTransmissionCompletion k) s =
        .next
          { s.setPair k { s.pairs[k] with
                relay := { s.pairs[k].relay with state := .gap, sending := none } } with
            out :=
              { s.out with
                replyQ := s.out.replyQ ++ doneMessages k .sent f
                absorbed :=
                  if f.confirm = some .cancelled then s.out.absorbed + 1 else s.out.absorbed } }) ∧
    (s.pairs[k].relay.state = .gap →
      exec (.gapEnd k) s =
        .next (s.setPair k { s.pairs[k] with relay := { s.pairs[k].relay with state := .idle } })) ∧
    (s.pairs[k].relay.sending = none →
      (s.pairs[k].mode = .split ∨ s.cuts.relays[k] = none → s.ltx k = []) ∧
      ∀ c, s.pairs[k].mode = .joined → s.cuts.relays[k] = some c → s.ltx k = [c.character])

/-! ## The Classifier -/

/-- The frame taken is the oldest of the first FIFO that holds one in the order p+1 to p+8 modulo 8; it
leaves its FIFO, the pointer names its lane, and its samples are processed in ascending point index; while
all FIFOs are empty none is taken. -/
def Obligations.FrameTakenServesTheNextLaneInTurn : Prop :=
  ∀ s : State, s.inReset = false →
    (∀ (l : LaneId) (f : Frame) (queue : List Frame), s.lanes[l].fifo = f :: queue →
      (∀ j : LaneId, (j.val + 7 - s.servicePointer.val) % 8 < (l.val + 7 - s.servicePointer.val) % 8 →
        s.lanes[j].fifo = []) →
      exec .frameTaken s =
        .next (f.readings.zipIdx.foldl (fun u x => processSample l f x.2 x.1 u)
          { s.setLane l { s.lanes[l] with fifo := queue } with servicePointer := l })) ∧
    ((∀ l : LaneId, s.lanes[l].fifo = []) → exec .frameTaken s = .next s)

/-- A lookup finds the row of its key, whatever its place among distinct keys; a marked entry and a key
with no row answer no match and change nothing, an unmarked entry in agreement answers its point id and
fields, and one that disagrees is marked, its record made UNKNOWN with no votes and no timer, and
MAP_INTEGRITY raised. -/
def Obligations.LookupAnswersOrMarksTheEntry : Prop :=
  ∀ (s : State) (key : Key),
    ((∀ row ∈ s.map.keyIndex, row.key ≠ key) → lookup key s = (s, none)) ∧
    (∀ p : PointId, ⟨key, p⟩ ∈ s.map.keyIndex → keysDistinct s.map.keyIndex →
      ((s.activePoint p).mark = true → lookup key s = (s, none)) ∧
      ((s.activePoint p).mark = false →
        crc16 (s.activePoint p).entry.bytes = (s.activePoint p).code →
        lookup key s = (s, some (p, (s.activePoint p).entry))) ∧
      ((s.activePoint p).mark = false →
        crc16 (s.activePoint p).entry.bytes ≠ (s.activePoint p).code →
        lookup key s =
          (raiseDevice .mapIntegrity
            { s with
              map := s.map.setActiveBank
                (s.map.activeBank.setPoint p { s.activePoint p with mark := true })
              records := rowSet s.records p
                { s.records[p] with condition := .unknown, vote := 0, timer := none } }, none)))

/-- A sample that finds no match, one whose lookup marked a disagreeing entry among them, is counted on its
lane and, under FORWARD_UNMATCHED, offered as an UNMATCHED message with the frame's sequence and arrival
time; nothing else is changed after the lookup. (That a lookup's own raise of MAP_INTEGRITY comes ahead of
the offer's DATA_LOSS is the model's choice, notes/assumptions/20.md.) A message offered to the Data queue is
absorbed and counted while the link is not ACTIVE, joins the tail while fewer than 32 stand there, and is
otherwise lost, counted, and DATA_LOSS raised. -/
def Obligations.UnmatchedSamplesAreCountedAndOffersResolved : Prop :=
  (∀ (s u : State) (l : LaneId) (f : Frame) (i : Nat) (x : Reading) (key : Key),
     key = ⟨l, f.node, Fin.ofNat 16 (f.startIndex.val + i)⟩ → lookup key s = (u, none) →
     ∀ counted : State, counted = u.setLane l
       { s.lanes[l] with
         counters := { s.lanes[l].counters with unmatched := s.lanes[l].counters.unmatched + 1 } } →
     (s.lanes[l].settings.unmatched = .discard → processSample l f i x s = counted) ∧
     (s.lanes[l].settings.unmatched = .forwardUnmatched →
       processSample l f i x s = offerData (.unmatched ⟨key, f.sequence, x, f.arrival⟩) counted)) ∧
  (∀ (m : Message) (s : State),
     (s.link.state ≠ .active →
       offerData m s = { s with out := { s.out with absorbed := s.out.absorbed + 1 } }) ∧
     (s.link.state = .active → s.out.dataQ.length < 32 →
       offerData m s = { s with out := { s.out with dataQ := s.out.dataQ ++ [m] } }) ∧
     (s.link.state = .active → 32 ≤ s.out.dataQ.length →
       offerData m s =
         raiseDevice .dataLoss { s with out := { s.out with loss := s.out.loss + 1 } }))

/-- From UNKNOWN, STALE or FAULTED a fresh sample sets the condition by the plain window with no votes; from
NORMAL and ABNORMAL it votes, the return with the hysteresis applied on true integers, and the incremented
count reaching qualify changes the condition and clears the count. -/
def Obligations.FreshSampleJudgesByWindowAndVotes : Prop :=
  ∀ (e : PointEntry) (v : Value) (vote : Nat) (inside : Prop),
    inside = (e.lower.toInt ≤ v.toInt ∧ v.toInt ≤ e.upper.toInt) →
    ∀ abnormal : Prop, abnormal = (if e.sense = .insideNormal then ¬inside else inside) →
    ∀ returns : Prop,
      returns =
        (if e.sense = .insideNormal then
          e.lower.toInt + e.hysteresis ≤ v.toInt ∧ v.toInt ≤ e.upper.toInt - e.hysteresis
        else v.toInt < e.lower.toInt - e.hysteresis ∨ e.upper.toInt + e.hysteresis < v.toInt) →
    (∀ c : Condition, c = .unknown ∨ c = .stale ∨ c = .faulted →
      (abnormal → evaluate e c vote v = (.abnormal, 0)) ∧
      (¬abnormal → evaluate e c vote v = (.normal, 0))) ∧
    (abnormal → e.qualify ≤ vote + 1 → evaluate e .normal vote v = (.abnormal, 0)) ∧
    (abnormal → vote + 1 < e.qualify → evaluate e .normal vote v = (.normal, vote + 1)) ∧
    (¬abnormal → evaluate e .normal vote v = (.normal, 0)) ∧
    (returns → e.qualify ≤ vote + 1 → evaluate e .abnormal vote v = (.normal, 0)) ∧
    (returns → vote + 1 < e.qualify → evaluate e .abnormal vote v = (.abnormal, vote + 1)) ∧
    (¬returns → evaluate e .abnormal vote v = (.abnormal, 0))

/-- What a matched sample does to its point's record: a duplicate counts itself alone; any other sample sets
the last sequence, counts itself and a gap; HELD leaves the judgement, FAULT makes the point FAULTED, a fresh
sample is evaluated and kept as last value; FAULT and fresh samples restart a qualifying stale timer. No
other record is changed. -/
def Obligations.MatchedSampleUpdatesItsRecord : Prop :=
  ∀ (s : State) (p : PointId) (e : PointEntry) (f : Frame) (x : Reading), e = (s.activePoint p).entry →
    (s.records[p].lastSequence = some f.sequence →
      matchedSample p e f x s =
        s.setRecord p { s.records[p] with duplicates := s.records[p].duplicates + 1 }) ∧
    (s.records[p].lastSequence ≠ some f.sequence →
      ∀ new : RuntimeRecord, new = (matchedSample p e f x s).records[p] →
      (∀ q : PointId, q ≠ p → (matchedSample p e f x s).records[q] = s.records[q]) ∧
      new.lastSequence = some f.sequence ∧ new.samples = s.records[p].samples + 1 ∧
      new.duplicates = s.records[p].duplicates ∧
      (new.gaps =
        match s.records[p].lastSequence with
        | none => s.records[p].gaps
        | some last => if f.sequence = last + 1 then s.records[p].gaps else s.records[p].gaps + 1) ∧
      (new.condition, new.vote) =
        (if x.held then (s.records[p].condition, s.records[p].vote)
          else if x.fault then (.faulted, 0)
          else evaluate e s.records[p].condition s.records[p].vote x.value) ∧
      (new.lastValue =
        if x.held = false ∧ x.fault = false then some x.value else s.records[p].lastValue) ∧
      (new.lastSampleTime = if x.held then s.records[p].lastSampleTime else some f.arrival) ∧
      (new.timer =
        if x.held = false ∧ pointUsable (s.activePoint p) ∧ 0 < e.staleLimit ∧ s.listening e.lane ∧
            new.condition ≠ .stale then
          some ⟨s.deviceTime, BitVec.ofNat 32 (e.staleLimit * 100)⟩
        else s.records[p].timer))

/-- The policy decides whether an accepted sample is forwarded; a DATA message that is placed carries the
point, the new condition, the transition flag, the reading, the sequence and the arrival time, and its
value becomes the last forwarded value; one absorbed or lost leaves that memory as it was. A matched sample
at any position of its frame that is no duplicate updates the record, raises the point's cause into its slot
when ABNORMAL, NORMAL_RETURN (not from UNKNOWN) or FAULT is selected and entered, then takes the forwarding
step, and then the group trigger: one report for each unmarked ON_SAMPLE group of the active bank whose
trigger member is the point, in ascending group number, each offered to the Data queue in its turn with the
members as the earlier stages left them; a group found disagreeing is marked, its period timer stopped and
MAP_INTEGRITY raised, with no report; every other group is passed over. -/
def Obligations.SampleTakenRaisesForwardsAndTriggers : Prop :=
  (∀ (s : State) (p : PointId) (e : PointEntry) (changed : Bool) (f : Frame) (x : Reading) (sends : Prop)
     (m : Message),
     sends =
       (match e.policy with
       | .absorb => False
       | .always => True
       | .transition => changed = true
       | .deadband =>
         changed = true ∨ s.records[p].lastForwarded = none ∨
           (x.held = false ∧ x.fault = false ∧
             ∃ v, s.records[p].lastForwarded = some v ∧
               (e.deadband : Int) ≤ |x.value.toInt - v.toInt|)) →
     m = .data ⟨p, s.records[p].condition, changed, x, f.sequence, f.arrival⟩ →
     (¬sends → forwardStage p e changed f x s = s) ∧
     (sends → s.link.state = .active → s.out.dataQ.length < 32 →
       forwardStage p e changed f x s =
         { s with
           records := rowSet s.records p { s.records[p] with lastForwarded := some x.value }
           out := { s.out with dataQ := s.out.dataQ ++ [m] } }) ∧
     (sends → s.link.state ≠ .active →
       forwardStage p e changed f x s =
         { s with out := { s.out with absorbed := s.out.absorbed + 1 } }) ∧
     (sends → s.link.state = .active → 32 ≤ s.out.dataQ.length →
       forwardStage p e changed f x s =
         raiseDevice .dataLoss { s with out := { s.out with loss := s.out.loss + 1 } })) ∧
  (∀ (s u : State) (l : LaneId) (f : Frame) (i : Nat) (x : Reading) (p : PointId) (e : PointEntry),
     e = (s.activePoint p).entry →
     lookup ⟨l, f.node, Fin.ofNat 16 (f.startIndex.val + i)⟩ s = (s, some (p, e)) →
     s.records[p].lastSequence ≠ some f.sequence →
     u = s.setRecord p
       (conditionStage e f.arrival (staleStart s (s.activePoint p)) x
         (sequenceStage f.sequence s.records[p])) →
     ∀ selected : Prop,
       selected =
         (u.records[p].condition ≠ s.records[p].condition ∧
           ((u.records[p].condition = .abnormal ∧ e.raiseOn.abnormal) ∨
             (u.records[p].condition = .normal ∧ s.records[p].condition ≠ .unknown ∧
               e.raiseOn.normalReturn) ∨
             (u.records[p].condition = .faulted ∧ e.raiseOn.fault))) →
     (selected →
       processSample l f i x s =
         groupStage p
           (forwardStage p e (u.records[p].condition != s.records[p].condition) f x
             (raiseInto e.slot (.point p) u))) ∧
     (¬selected →
       processSample l f i x s =
         groupStage p
           (forwardStage p e (u.records[p].condition != s.records[p].condition) f x u))) ∧
  (∀ (s : State) (p : PointId), ∃ after : Nat → State,
     after 0 = s ∧ after 16 = groupStage p s ∧
     ∀ (g : GroupId) (e : Stored GroupEntry), e = s.activeGroup g →
       ∀ triggered : Prop,
         triggered =
           (e.entry.trigger = .onSample ∧ e.mark = false ∧
             e.entry.start.val + e.entry.triggerMember = p.val) →
         (triggered → crc16 e.entry.bytes = e.code →
           ∃ members : List ReportMember, s.showsMembers e.entry members ∧
             after (g.val + 1) =
               offerData (.report ⟨g, .onSample, none, s.map.generation, s.deviceTime, members⟩)
                 (after g.val)) ∧
         (triggered → crc16 e.entry.bytes ≠ e.code →
           ∀ before : State, before = after g.val →
           after (g.val + 1) =
             raiseDevice .mapIntegrity
               { before with
                 map := before.map.setActiveBank
                   (before.map.activeBank.setGroup g { e with mark := true })
                 periodTimers := rowSet before.periodTimers g none }) ∧
         (¬triggered → after (g.val + 1) = after g.val))

/-- At a stale expiry the timer stops, the votes become 0 and the point goes STALE, and STALE, if selected,
raises the point's cause into its slot; no message is built and nothing else is changed; no expiry occurs
before the timer's time. (A command before its timer's time changes nothing: the model's choice,
notes/assumptions/3.md.) -/
def Obligations.StaleExpiryMakesThePointStale : Prop :=
  ∀ (s : State) (p : PointId), s.inReset = false →
    (timerDue s.deviceTime s.records[p].timer = false → exec (.staleExpiry p) s = .next s) ∧
    (timerDue s.deviceTime s.records[p].timer = true → s.records[p].condition ≠ .stale →
      ∀ u : State,
        u = s.setRecord p { s.records[p] with condition := .stale, vote := 0, timer := none } →
        ((s.activePoint p).entry.raiseOn.stale = false → exec (.staleExpiry p) s = .next u) ∧
        ((s.activePoint p).entry.raiseOn.stale = true →
          exec (.staleExpiry p) s =
            .next (raiseInto (s.activePoint p).entry.slot (.point p) u)))

/-! ## Alert slots -/

/-- A raise into a slot keeps a cause that is there, appends one that is not while fewer than eight stand
there, and otherwise sets overflow; it does so whatever the slot's level and mask, the stack and the queues
hold, changes no other slot and no other block (a wake of a DORMANT link apart), and a raise into NONE
changes nothing; a device cause goes to the slot its routing row names. In DORMANT, a raise that makes a
slot selectable takes the link to WAKING in its event: the wake count is 1, the wake timer starts, and WAKE
1 starts at once with the best pending level and the device time; a raise that makes none selectable leaves
the link DORMANT. (That the WAKE starts in the event of its offer is the model's reading,
notes/assumptions/9.md.) -/
def Obligations.RaiseKeepsAppendsOrOverflowsAndWakes : Prop :=
  (∀ (s : State) (c : Cause),
     raiseInto none c s = s ∧
     (∀ d : DeviceCause, raiseDevice d s = raiseInto s.routing[d.code] (.device d) s) ∧
     ∀ (k : SlotId) (after : Slot),
       (c ∈ s.slots[k].causes → after = s.slots[k]) →
       (c ∉ s.slots[k].causes → s.slots[k].causes.length < 8 →
         after = { s.slots[k] with causes := s.slots[k].causes ++ [c] }) →
       (c ∉ s.slots[k].causes → 8 ≤ s.slots[k].causes.length →
         after = { s.slots[k] with overflow := true }) →
       (s.link.state ≠ .dormant → raiseInto (some k) c s = s.setSlot k after) ∧
       (∃ t, raiseInto (some k) c s = t ∧ t.slots = rowSet s.slots k after ∧
         t = { s with slots := t.slots, link := t.link, out := t.out } ∧
         t.out.alertQ = s.out.alertQ ∧ t.out.replyQ = s.out.replyQ ∧ t.out.dataQ = s.out.dataQ)) ∧
  (∀ (s u : State) (k : SlotId) (c : Cause), s.link.state = .dormant → s.out.sending = none →
     u = s.setSlot k (s.slots[k].raise c) →
     ((∀ j : SlotId, ¬u.selectable j) → raiseInto (some k) c s = u) ∧
     (∀ best : SlotId, u.selectable best → (∀ j, u.selectable j → u.slots[best].level ≤ u.slots[j].level) →
       raiseInto (some k) c s =
         { u with
           link :=
             { s.link with
               state := .waking
               wakeCount := 1
               wakeTimer := some ⟨s.deviceTime, BitVec.ofNat 32 (s.link.params.wakeInterval * 1000)⟩ }
           out := { s.out with sending := some (.wake ⟨1, u.slots[best].level.val, s.deviceTime⟩) } }))

/-- SET_SLOT: a slot above 31 is BAD_INDEX, a level above 3 and then a mask that is neither are BAD_VALUE
naming them; otherwise level and mask alone are replaced and the reply carries slot, level, mask and
pending. CLEAR_SLOT: a slot above 31 is BAD_INDEX; otherwise the slot is emptied with its overflow
cleared, level and mask kept, and the reply carries the slot, the entries discarded and the overflow that
stood. SET_ROUTE: a code that names no device cause and then a slot byte that is neither 0..31 nor FFh
are BAD_VALUE naming them; otherwise the cause's row alone is replaced and the reply carries the cause,
its new and its former route. (That pending is a yes/no byte of the reply, 1 for yes, is the model's reading,
notes/assumptions/6.md; no rule states that byte.) -/
def Obligations.SlotWritesReplaceClearAndRoute : Prop :=
  (∀ (s : State) (tag : Tag) (b0 b1 b2 : Byte) (rest : List (List Byte)),
     Takes s tag 9#8 [b0, b1, b2] rest →
     (32 ≤ b0.toNat → Answers .setSlot s tag rest .badIndex [b0] s) ∧
     (b0.toNat < 32 → 4 ≤ b1.toNat → Answers .setSlot s tag rest .badValue [2#8] s) ∧
     (b0.toNat < 32 → b1.toNat < 4 → 2 ≤ b2.toNat →
       Answers .setSlot s tag rest .badValue [3#8] s) ∧
     ∀ (k : SlotId) (level : Level) (mask : Mask), b0.toNat = k.val → b1.toNat = level.val →
       b2 = BitVec.ofNat 8 mask.code →
       Answers .setSlot s tag rest .ok
         [b0, b1, b2,
           if s.slots[k].causes ≠ [] ∨ s.slots[k].overflow = true then 1#8 else 0#8]
         (s.setSlot k ⟨level, mask, s.slots[k].causes, s.slots[k].overflow⟩)) ∧
  (∀ (s : State) (tag : Tag) (b : Byte) (rest : List (List Byte)), Takes s tag 11#8 [b] rest →
     (32 ≤ b.toNat → Answers .clearSlot s tag rest .badIndex [b] s) ∧
     ∀ k : SlotId, b.toNat = k.val →
       Answers .clearSlot s tag rest .ok
         [b, BitVec.ofNat 8 s.slots[k].causes.length, if s.slots[k].overflow then 1#8 else 0#8]
         (s.setSlot k ⟨s.slots[k].level, s.slots[k].mask, [], false⟩)) ∧
  (∀ (s : State) (tag : Tag) (b0 b1 : Byte) (rest : List (List Byte)),
     Takes s tag 12#8 [b0, b1] rest →
     (12 ≤ b0.toNat → Answers .setRoute s tag rest .badValue [1#8] s) ∧
     (b0.toNat < 12 → 32 ≤ b1.toNat → b1.toNat ≠ 255 →
       Answers .setRoute s tag rest .badValue [2#8] s) ∧
     ∀ (d : DeviceCause) (route : Option SlotId), b0.toNat = d.code.val →
       b1.toNat = (match route with | none => 255 | some k => k.val) →
       Answers .setRoute s tag rest .ok
         [b0, b1, match s.routing[d.code] with | none => 255#8 | some k => BitVec.ofNat 8 k.val]
         { s with routing := rowSet s.routing d.code route })

/-- READ_SLOT answers level, mask, pending, the causes in order with their number, overflow and the number
of the slot's record in service; READ_STACK answers the count, the service level, the counter and every
record, bottom first; both change nothing, and a slot above 31 is BAD_INDEX. (How the number of a record in
service is encoded, and the records without a second count, are the model's readings,
notes/assumptions/6.md.) -/
def Obligations.SlotAndStackReadsShowTheState : Prop :=
  ∀ (s : State) (tag : Tag) (b : Byte) (rest : List (List Byte)),
    (Takes s tag 10#8 [b] rest → 32 ≤ b.toNat → Answers .readSlot s tag rest .badIndex [b] s) ∧
    (∀ k : SlotId, Takes s tag 10#8 [b] rest → b.toNat = k.val →
      Answers .readSlot s tag rest .ok
        ([b] ++ u8 s.slots[k].level.val ++ u8 s.slots[k].mask.code ++
          [if s.slots[k].causes ≠ [] ∨ s.slots[k].overflow = true then 1#8 else 0#8] ++
          u8 s.slots[k].causes.length ++ s.slots[k].causes.flatMap Cause.field ++
          yesNo s.slots[k].overflow ++
          (match s.stack.find? (fun r => r.slot == k) with
            | none => [0#8, 0#8]
            | some r => [1#8, r.number])) s) ∧
    (Takes s tag 14#8 [] rest →
      Answers .readStack s tag rest .ok
        (u8 s.stack.length ++
          u8 (match s.stack.getLast? with | none => 4 | some r => r.level.val) ++ [s.alertCounter] ++
          s.stack.flatMap fun r =>
            [r.number] ++ u8 r.slot.val ++ u8 r.level.val ++ u8 r.state.code ++ u8 r.repeatCount ++
              u32 r.captureTime ++ yesNo r.overflow ++ u8 r.causes.length ++
              r.causes.flatMap Cause.field ++ timerField s.deviceTime r.timer) s)

/-! ## Alert delivery -/

/-- A selection is made exactly while the link is ACTIVE, the Alert queue has a free entry, no repeat is
owed and a slot is selectable; it chooses the selectable slot of the lowest level, and of those the lowest
slot. -/
def Obligations.SelectionChoosesTheMostUrgentSlot : Prop :=
  ∀ s : State,
    (∀ k : SlotId, s.selection = some k ↔
      s.link.state = .active ∧ s.out.alertQ.length < 8 ∧ (∀ r ∈ s.stack, r.state ≠ .repeatOwed) ∧
        s.selectable k ∧
        ∀ j : SlotId, s.selectable j →
          s.slots[k].level < s.slots[j].level ∨ (s.slots[k].level = s.slots[j].level ∧ k ≤ j)) ∧
    (s.wakeDemand = true ↔ ∃ k : SlotId, s.selectable k)

/-- A capture moves the chosen slot's causes and overflow into a new record on top of the stack, numbered by
the first free number counting from the counter, which then names the next; its ALERT with repeat count 0
joins the Alert queue and the slot is left empty with its level and mask; with nothing to select no capture
takes place; nothing else is changed. -/
def Obligations.CapturePushesTheChosenSlot : Prop :=
  ∀ s : State, s.inReset = false →
    (s.selection = none → exec .capture s = .next s) ∧
    ∀ k : SlotId, s.selection = some k →
      ∃ skipped : Nat, skipped ≤ s.stack.length ∧
        (∀ d : Nat, d < skipped → ∃ r ∈ s.stack, r.number = s.alertCounter + BitVec.ofNat 8 d) ∧
        (s.stack.length < 256 →
          ∀ r ∈ s.stack, r.number ≠ s.alertCounter + BitVec.ofNat 8 skipped) ∧
        ∀ number : AlertNumber, number = s.alertCounter + BitVec.ofNat 8 skipped →
          exec .capture s =
            .next
              { s with
                slots := rowSet s.slots k ⟨s.slots[k].level, s.slots[k].mask, [], false⟩
                stack :=
                  s.stack ++
                    [⟨number, k, s.slots[k].level, s.slots[k].causes, s.slots[k].overflow,
                      s.deviceTime, 0, .queued, none⟩]
                alertCounter := number + 1
                out :=
                  { s.out with
                    alertQ :=
                      s.out.alertQ ++
                        [.alert ⟨number, k, s.slots[k].level, 0, s.deviceTime, s.slots[k].overflow,
                          s.slots[k].causes⟩] } }

/-- At the acknowledgement timer's expiry of an AWAITING record below the retry limit, the repeat count
increments and the repeat is queued if an entry is free that no owed repeat claims, otherwise owed; at the
limit the record lapses: it leaves the stack, its LAPSE is queued or counted as not sent, and ALERT_LAPSE
is raised. A number with no such record changes nothing. A free Alert queue entry goes to the REPEAT_OWED
record nearest the top: its repeat joins the tail and it becomes QUEUED; with no entry free or no repeat
owed nothing is changed. (A command for a record that is not due, or an entry that no repeat waits for,
changes nothing: the model's choice, notes/assumptions/3.md.) -/
def Obligations.AcknowledgementExpiryRepeatsOwesOrLapses : Prop :=
  (∀ (s : State) (number : AlertNumber), s.inReset = false →
     ((∀ r ∈ s.stack, r.number = number → r.state = .awaiting →
         timerDue s.deviceTime r.timer = false) →
       exec (.acknowledgementTimerExpiry number) s = .next s) ∧
     ∀ below r above, s.stack = below ++ r :: above → stackNested s.stack → r.number = number →
       r.state = .awaiting → timerDue s.deviceTime r.timer = true →
       (r.repeatCount < s.link.params.retryLimit →
         s.stack.countP (fun x => x.state == .repeatOwed) < 8 - s.out.alertQ.length →
         exec (.acknowledgementTimerExpiry number) s =
           .next
             { s with
               stack :=
                 below ++
                   { r with repeatCount := r.repeatCount + 1, state := .queued, timer := none } :: above
               out :=
                 { s.out with
                   alertQ :=
                     s.out.alertQ ++
                       [.alert ⟨number, r.slot, r.level, r.repeatCount + 1, r.captureTime, r.overflow,
                         r.causes⟩] } }) ∧
       (r.repeatCount < s.link.params.retryLimit →
         8 - s.out.alertQ.length ≤ s.stack.countP (fun x => x.state == .repeatOwed) →
         exec (.acknowledgementTimerExpiry number) s =
           .next
             { s with
               stack :=
                 below ++
                   { r with repeatCount := r.repeatCount + 1, state := .repeatOwed, timer := none } ::
                     above }) ∧
       (s.link.params.retryLimit ≤ r.repeatCount → s.out.alertQ.length < 8 →
         exec (.acknowledgementTimerExpiry number) s =
           .next (raiseDevice .alertLapse
             { s with
               stack := below ++ above
               out :=
                 { s.out with
                   alertQ :=
                     s.out.alertQ ++
                       [.lapse ⟨number, r.slot, r.level, r.repeatCount, s.deviceTime⟩] } })) ∧
       (s.link.params.retryLimit ≤ r.repeatCount → 8 ≤ s.out.alertQ.length →
         exec (.acknowledgementTimerExpiry number) s =
           .next (raiseDevice .alertLapse
             { s with
               stack := below ++ above
               out := { s.out with lapseNotSent := s.out.lapseNotSent + 1 } }))) ∧
  (∀ s : State, s.inReset = false →
     (8 ≤ s.out.alertQ.length ∨ (∀ r ∈ s.stack, r.state ≠ .repeatOwed) →
       exec .owedRepeatPlacement s = .next s) ∧
     ∀ below r above, s.stack = below ++ r :: above → stackNested s.stack → r.state = .repeatOwed →
       (∀ x ∈ above, x.state ≠ .repeatOwed) → s.out.alertQ.length < 8 →
       exec .owedRepeatPlacement s =
         .next
           { s with
             stack := below ++ { r with state := .queued } :: above
             out :=
               { s.out with
                 alertQ :=
                   s.out.alertQ ++
                     [.alert ⟨r.number, r.slot, r.level, r.repeatCount, r.captureTime, r.overflow,
                       r.causes⟩] } })

/-- ALERT_DONE of the top record pops it, withdrawing its queued ALERT and leaving the other messages in
their order; of a deeper record it is NOT_TOP with the top's number and level; of no record it is
UNKNOWN_ALERT with the top's number or none; only the pop changes the stack and the Alert queue. (How the
top's number is encoded when there is one or none is the model's reading, notes/assumptions/6.md.) -/
def Obligations.AlertDonePopsTheTopAlone : Prop :=
  ∀ (s : State) (tag : Tag) (number : AlertNumber) (rest : List (List Byte)),
    Takes s tag 13#8 [number] rest →
    (s.stack = [] → Answers .alertDone s tag rest .unknownAlert [number, 0#8, 0#8] s) ∧
    ∀ below top, s.stack = below ++ [top] →
      (top.number = number →
        Answers .alertDone s tag rest .ok
          ([number] ++ u8 top.slot.val ++ u8 top.repeatCount ++ u8 top.state.code ++
            u8 (match below.getLast? with | none => 4 | some r => r.level.val))
          { s with
            stack := below
            out :=
              { s.out with
                alertQ :=
                  if top.state = .queued then
                    s.out.alertQ.filter (fun m => !m.isAlertOf number)
                  else s.out.alertQ } }) ∧
      (top.number ≠ number → (∃ r ∈ below, r.number = number) →
        Answers .alertDone s tag rest .notTop ([number, top.number] ++ u8 top.level.val) s) ∧
      (top.number ≠ number → (∀ r ∈ below, r.number ≠ number) →
        Answers .alertDone s tag rest .unknownAlert [number, 1#8, top.number] s)

/-! ## The map -/

/-- WRITE_POINT with valid byte 0 stores the invalid-entry contents unchecked; otherwise the first failing
check of R5 is BAD_VALUE naming its field and nothing is changed, and an entry that passes is stored whole,
byte for byte, in the shadow bank with its computed code and a clear mark, the reply carrying the code. -/
def Obligations.WritePointValidatesThenStoresInTheShadow : Prop :=
  ∀ (s : State) (tag : Tag) (p : PointId) (b : List Byte) (rest : List (List Byte)),
    s.mgmt.tracker.operation = .none → b.length = 19 →
    Takes s tag 2#8 (BitVec.ofNat 8 p.val :: b) rest →
    ∀ stores : PointEntry → Prop,
      (∀ e, stores e ↔
        Answers .writePoint s tag rest .ok (u8 p.val ++ codeField (crc16 e.bytes))
          (s.setMap (s.map.setShadowBank
            (s.map.shadowBank.setPoint p ⟨e, crc16 e.bytes, false⟩)))) →
      (byteAt b 0 = 0#8 → stores PointEntry.invalid) ∧
      (byteAt b 0 ≠ 0#8 → ∀ field, pointRefusal b = some field →
        Answers .writePoint s tag rest .badValue (u8 field) s) ∧
      (byteAt b 0 ≠ 0#8 → pointRefusal b = none →
        ∃ e : PointEntry, e.valid = true ∧ e.legal ∧ e.bytes = 1#8 :: b.tail ∧ stores e)

/-- WRITE_GROUP: a group above 15 is BAD_INDEX; trigger OFF stores the group-off contents unchecked;
otherwise the first failing check of R8 is BAD_VALUE naming its field, and an entry that passes is stored
byte for byte in the shadow bank with its computed code and a clear mark. CLEAR_SHADOW makes every shadow
entry the invalid-entry or group-off contents with the code computed from them and a clear mark, names
the physical bank, and changes nothing else. -/
def Obligations.WriteGroupAndClearShadowStoreInTheShadow : Prop :=
  (∀ (s : State) (tag : Tag) (b0 : Byte) (b : List Byte) (rest : List (List Byte)),
     s.mgmt.tracker.operation = .none → b.length = 6 → Takes s tag 4#8 (b0 :: b) rest →
     (16 ≤ b0.toNat → Answers .writeGroup s tag rest .badIndex [b0] s) ∧
     ∀ g : GroupId, b0.toNat = g.val → ∀ stores : GroupEntry → Prop,
       (∀ e, stores e ↔
         Answers .writeGroup s tag rest .ok ([b0] ++ codeField (crc16 e.bytes))
           (s.setMap (s.map.setShadowBank
             (s.map.shadowBank.setGroup g ⟨e, crc16 e.bytes, false⟩)))) →
       (byteAt b 0 = 0#8 → stores GroupEntry.groupOff) ∧
       (byteAt b 0 ≠ 0#8 → ∀ field, groupRefusal b = some field →
         Answers .writeGroup s tag rest .badValue (u8 field) s) ∧
       (byteAt b 0 ≠ 0#8 → groupRefusal b = none →
         ∃ e : GroupEntry, e.trigger ≠ .off ∧ e.legal ∧ e.bytes = b ∧ stores e)) ∧
  (∀ (s : State) (tag : Tag) (rest : List (List Byte)),
     s.mgmt.tracker.operation = .none → Takes s tag 5#8 [] rest →
     ∃ empty : Bank,
       (∀ p : PointId, empty.points[p] =
         ⟨PointEntry.invalid, crc16 PointEntry.invalid.bytes, false⟩) ∧
       (∀ g : GroupId, empty.groups[g] =
         ⟨GroupEntry.groupOff, crc16 GroupEntry.groupOff.bytes, false⟩) ∧
       Answers .clearShadow s tag rest .ok (match s.map.active with | .a => [1#8] | .b => [0#8])
         (s.setMap
           (match s.map.active with
             | .a => { s.map with bankB := empty }
             | .b => { s.map with bankA := empty })))

/-- Every legal point entry, group entry and set of trunk parameters is read back from the bytes that carry
it: no field and no bit is lost between the encoding and the operand forms. A message in transmission drives
TTXD with the delimiter D4h, its kind, its payload length, its payload and the CRC-16 of those, and with no
message TTXD is idle, but for the character of a message cut short that it still finishes; the payload of each of the nine kinds holds its fields in their bytes, enumerated
fields numbered in their order. (The two yes/no bytes of an UNMATCHED's flags are the model's choice,
notes/assumptions/21.md; the two bytes of the number of points are its reading, notes/assumptions/6.md.) -/
def Obligations.EntriesReadBackAndMessagesDriveTheirCharacters : Prop :=
  ((∀ e : PointEntry, e.legal → readPointEntry e.bytes = .ok e) ∧
   (∀ g : GroupEntry, g.legal → readGroupEntry g.bytes = .ok g) ∧
   (∀ p : TrunkParams, p.silenceTimeout ≤ 255 → 1 ≤ p.wakeInterval → p.wakeInterval ≤ 60 →
     1 ≤ p.wakeLimit → p.wakeLimit ≤ 15 → 1 ≤ p.ackTimeout → p.ackTimeout ≤ 600 → p.retryLimit ≤ 7 →
     readTrunkParams p.field = .ok p)) ∧
  ((∀ s : State, s.out.sending = none →
      (s.cuts.trunk = none → s.ttxd = []) ∧ ∀ c, s.cuts.trunk = some c → s.ttxd = [c.character]) ∧
   (∀ (s : State) (m : Message) (kind : Byte) (payload span : List Byte), s.out.sending = some m →
     m.layout = (kind, payload) → span = kind :: BitVec.ofNat 8 payload.length :: payload →
     s.ttxd = 0xD4#8 :: span ++ codeField (crc16 span))) ∧
  ([Status.ok, .badOp, .badIndex, .badValue, .busy, .genMismatch, .dupKey, .integrity, .laneActive,
      .laneMode, .laneDisabled, .queueFull, .notTop, .unknownAlert, .alertsOutstanding].map Status.code =
      List.range 15 ∧
   [Condition.unknown, .normal, .abnormal, .stale, .faulted].map Condition.code = List.range 5 ∧
   [Origin.periodic, .onSample, .request].map Origin.code = List.range 3 ∧
   [RelayOutcome.sent, .discarded, .abandoned].map RelayOutcome.code = List.range 3 ∧
   [RestartCause.powerOn, .resetLine, .restartRequest, .none].map RestartCause.code = List.range 4 ∧
   [BankName.a, .b].map BankName.code = List.range 2 ∧
   (∀ l : LaneId, (DeviceCause.laneSuspended l).code.val = l.val) ∧
   [DeviceCause.dataLoss, .alertLapse, .mapIntegrity, .restarted].map DeviceCause.code = [8, 9, 10, 11])

/-- READ_POINT and READ_GROUP answer the role, the physical bank that holds it, the entry as stored, its
stored code, MATCH or MISMATCH, the mark (clear for the shadow) and the generation, and change nothing;
READ_CONDITION answers the record and, under CLEAR, then clears its three counters alone. READ_GROUP of a
group above 15 is BAD_INDEX whatever its role; otherwise an option that is neither of its two is BAD_VALUE
naming it. (R202 gives the bytes of READ_POINT's check result and mark; that READ_GROUP's are the same is the
model's reading, notes/assumptions/6.md.) -/
def Obligations.MapAndConditionReadsShowTheState : Prop :=
  ∀ (s : State) (tag : Tag) (b0 b1 : Byte) (rest : List (List Byte)),
    (∀ (role : Role) (name : BankName),
      name = (match role with | .active => s.map.active | .shadow => s.map.active.other) →
      b1 = BitVec.ofNat 8 role.code → s.mgmt.tracker.operation = .none →
      (∀ (p : PointId) (e : Stored PointEntry), b0.toNat = p.val → e = (s.map.bank name).points[p] →
        Takes s tag 1#8 [b0, b1] rest →
        Answers .readPoint s tag rest .ok
          ([b1] ++ u8 name.code ++ [b0] ++ e.entry.bytes ++ codeField e.code ++
            [if crc16 e.entry.bytes = e.code then 0#8 else 1#8] ++
            [if role = .active ∧ e.mark = true then 1#8 else 0#8] ++ u16 s.map.generation.toNat) s) ∧
      (∀ (g : GroupId) (e : Stored GroupEntry), b0.toNat = g.val → e = (s.map.bank name).groups[g] →
        Takes s tag 3#8 [b0, b1] rest →
        Answers .readGroup s tag rest .ok
          ([b1] ++ u8 name.code ++ [b0] ++ e.entry.bytes ++ codeField e.code ++
            [if crc16 e.entry.bytes = e.code then 0#8 else 1#8] ++
            [if role = .active ∧ e.mark = true then 1#8 else 0#8] ++ u16 s.map.generation.toNat) s)) ∧
    (2 ≤ b1.toNat → s.mgmt.tracker.operation = .none →
      (Takes s tag 1#8 [b0, b1] rest → Answers .readPoint s tag rest .badValue [2#8] s) ∧
      (Takes s tag 3#8 [b0, b1] rest → b0.toNat < 16 →
        Answers .readGroup s tag rest .badValue [2#8] s)) ∧
    (16 ≤ b0.toNat → s.mgmt.tracker.operation = .none → Takes s tag 3#8 [b0, b1] rest →
      Answers .readGroup s tag rest .badIndex [b0] s) ∧
    (2 ≤ b1.toNat → Takes s tag 8#8 [b0, b1] rest →
      Answers .readCondition s tag rest .badValue [2#8] s) ∧
    (∀ (p : PointId) (clear : Bool), b0.toNat = p.val → b1 = BitVec.ofNat 8 clear.toNat →
      Takes s tag 8#8 [b0, b1] rest → ∀ r : RuntimeRecord, r = s.records[p] →
      Answers .readCondition s tag rest .ok
        ([b0] ++
          [if (s.activePoint p).mark then 2#8 else if (s.activePoint p).entry.valid then 0#8 else 1#8] ++
          u16 s.map.generation.toNat ++ u8 r.condition.code ++ u8 r.vote ++
          optional 2 (r.lastValue.map s16) ++ optional 1 (r.lastSequence.map fun q => u8 q.toNat) ++
          optional 2 (r.lastForwarded.map s16) ++ optional 4 (r.lastSampleTime.map u32) ++
          timerField s.deviceTime r.timer ++ u32 r.samples ++ u32 r.gaps ++ u32 r.duplicates)
        (if clear then s.setRecord p { r with samples := 0, gaps := 0, duplicates := 0 } else s))

/-- COPY_ACTIVE starts at once; COMMIT starts when the expected generation is the current one and is
otherwise GEN_MISMATCH with both, changing nothing: a start sets the tracker, reserves a Reply queue
entry, leaves its cache entry IN_PROGRESS and places no reply. While a long map operation is in flight,
each of the seven operations that name the map is answered BUSY with the operation and its phase, before
any check of its own, and changes nothing. -/
def Obligations.LongMapOperationsStartAndKeepTheMapBusy : Prop :=
  (∀ (s : State) (tag : Tag) (rest : List (List Byte)), s.mgmt.tracker.operation = .none →
     (Takes s tag 6#8 [] rest →
       exec .copyActive s =
         .next
           { s with
             link := { s.link with inbound := rest }
             mgmt :=
               { s.mgmt with
                 cache := cacheRoom s.mgmt.cache tag ++ [⟨tag, 6#8, none⟩]
                 tracker := ⟨.copyActive, tag, .copying, 0, true⟩
                 reservation := true } }) ∧
     ∀ b0 b1 : Byte, Takes s tag 7#8 [b0, b1] rest →
       (b0 ++ b1 = s.map.generation →
         exec .commit s =
           .next
             { s with
               link := { s.link with inbound := rest }
               map := { s.map with partialIndex := [] }
               mgmt :=
                 { s.mgmt with
                   cache := cacheRoom s.mgmt.cache tag ++ [⟨tag, 7#8, none⟩]
                   tracker := ⟨.commit, tag, .checking, 0, true⟩
                   reservation := true } }) ∧
       (b0 ++ b1 ≠ s.map.generation →
         Answers .commit s tag rest .genMismatch ([b0, b1] ++ u16 s.map.generation.toNat) s)) ∧
  (∀ (o : Operation) (s : State) (tag : Tag) (operands : List Byte) (rest : List (List Byte)),
     o ∈ mapOperations → operands.length = o.operandCount operands →
     s.mgmt.tracker.operation ≠ .none → Takes s tag o.code operands rest →
     Answers o s tag rest .busy
       (u8 s.mgmt.tracker.operation.code ++ u8 s.mgmt.tracker.phase.code) s)

/-- COPY_ACTIVE copies the entry at its position, contents and stored code with a clear mark, from the
active to the shadow bank and moves on by one; after the sixteenth group it completes: the tracker returns to
NONE and an owed reply names source, destination and generation. -/
def Obligations.CopyEntryCopiesOneEntryAndCompletes : Prop :=
  ∀ (s : State) (n : Nat) (shadow : Bank), s.inReset = false →
    s.mgmt.tracker.operation = .copyActive → s.mgmt.tracker.position = n →
    ((∃ p : PointId, n = p.val ∧
        shadow = s.map.shadowBank.setPoint p { s.map.activeBank.points[p] with mark := false }) ∨
      (∃ g : GroupId, n = 256 + g.val ∧
        shadow = s.map.shadowBank.setGroup g { s.map.activeBank.groups[g] with mark := false })) →
    (n + 1 < 272 →
      exec .copyActiveEntry s =
        .next
          { s with
            map := s.map.setShadowBank shadow
            mgmt := { s.mgmt with tracker := { s.mgmt.tracker with position := n + 1 } } }) ∧
    (n + 1 = 272 →
      exec .copyActiveEntry s =
        .next (longOpEnded
          ⟨s.mgmt.tracker.tag, 6#8, .ok,
            u8 s.map.active.code ++ u8 s.map.active.other.code ++ u16 s.map.generation.toNat⟩
          { s with map := s.map.setShadowBank shadow }))

/-- The check pass refuses the first shadow entry that disagrees with its code with INTEGRITY and the first
valid entry whose key stands in the index already with DUP_KEY, earlier id first; an entry that passes adds
its key if it is a valid point, and moves the position on; after the sixteenth group the phase is READY. -/
def Obligations.CheckPassExaminesOneEntry : Prop :=
  ∀ (s : State) (n : Nat), s.inReset = false → s.mgmt.tracker.operation = .commit →
    s.mgmt.tracker.phase = .checking → s.mgmt.tracker.position = n →
    ∀ (refused : Status → List Byte → Prop) (passed : List KeyRow → Prop),
      (∀ status results, refused status results ↔
        exec .checkPassEntry s =
          .next (longOpEnded ⟨s.mgmt.tracker.tag, 7#8, status, results⟩
            { s with map := { s.map with partialIndex := [] } })) →
      (∀ index, passed index ↔
        exec .checkPassEntry s =
          .next
            { s with
              map := { s.map with partialIndex := index }
              mgmt :=
                { s.mgmt with
                  tracker :=
                    { s.mgmt.tracker with
                      position := n + 1
                      phase := if n + 1 < 272 then .checking else .ready } } }) →
      (∀ (p : PointId) (e : Stored PointEntry), n = p.val → e = s.map.shadowBank.points[p] →
        (crc16 e.entry.bytes ≠ e.code → refused .integrity ([0#8] ++ u8 p.val)) ∧
        (crc16 e.entry.bytes = e.code →
          (e.entry.valid = false → passed s.map.partialIndex) ∧
          (e.entry.valid = true →
            ((∀ row ∈ s.map.partialIndex, row.key ≠ e.entry.key) →
              passed (s.map.partialIndex ++ [⟨e.entry.key, p⟩])) ∧
            (∀ q : PointId, ⟨e.entry.key, q⟩ ∈ s.map.partialIndex →
              keysDistinct s.map.partialIndex →
              refused .dupKey (u8 q.val ++ u8 p.val))))) ∧
      (∀ (g : GroupId) (e : Stored GroupEntry), n = 256 + g.val → e = s.map.shadowBank.groups[g] →
        (crc16 e.entry.bytes ≠ e.code → refused .integrity ([1#8] ++ u8 g.val)) ∧
        (crc16 e.entry.bytes = e.code → passed s.map.partialIndex))

/-- Whether a COMMIT completion retains a point id: both entries valid and unmarked, same key, same sense,
bounds and hysteresis; it keeps every field of a retained record (its timer stopped when the new stale
limit is 0), clears every other and starts the timers that qualify, exchanges the banks, serves the checked
index, clears the new shadow's marks, counts the generation, prunes the reset ids' causes, reconciles the
period timers, and answers. (The three counts are sent in two bytes: the model's reading,
notes/assumptions/6.md.) -/
def Obligations.CommitCompletionExchangesAndReconciles : Prop :=
  ∀ (s : State) (kept : PointId → Prop), s.inReset = false → s.mgmt.tracker.operation = .commit →
    s.mgmt.tracker.phase = .ready →
    (∀ p, kept p ↔
      ∃ old new : Stored PointEntry, old = s.map.activeBank.points[p] ∧
        new = s.map.shadowBank.points[p] ∧ old.entry.valid = true ∧ old.mark = false ∧
        new.entry.valid = true ∧ new.mark = false ∧ old.entry.lane = new.entry.lane ∧
        old.entry.node = new.entry.node ∧ old.entry.index = new.entry.index ∧
        old.entry.sense = new.entry.sense ∧ old.entry.lower = new.entry.lower ∧
        old.entry.upper = new.entry.upper ∧ old.entry.hysteresis = new.entry.hysteresis) →
    ∃ (u : State) (retained valid : Nat),
      exec .commitCompletion s =
        .next (longOpEnded
          ⟨s.mgmt.tracker.tag, 7#8, .ok,
            u16 (s.map.generation + 1).toNat ++ u8 s.map.active.other.code ++ u16 retained ++
              u16 (256 - retained) ++ u16 valid⟩ u) ∧
      retained = (allFin 256).countP (fun p => s.retainsPoint p) ∧
      (∀ p, s.retainsPoint p = true ↔ kept p) ∧
      valid = (allFin 256).countP (fun p => s.map.shadowBank.points[p].entry.valid) ∧
      u = { s with map := u.map, records := u.records, slots := u.slots,
                   periodTimers := u.periodTimers } ∧
      u.map.active = s.map.active.other ∧ u.map.generation = s.map.generation + 1 ∧
      u.map.keyIndex = s.map.partialIndex ∧ u.map.activeBank = s.map.shadowBank ∧
      (∀ p : PointId, u.map.shadowBank.points[p] =
        { s.map.activeBank.points[p] with mark := false }) ∧
      (∀ g : GroupId, u.map.shadowBank.groups[g] =
        { s.map.activeBank.groups[g] with mark := false }) ∧
      (∀ p : PointId, kept p → u.records[p] =
        if s.map.shadowBank.points[p].entry.staleLimit = 0 then
          { s.records[p] with timer := none }
        else s.records[p]) ∧
      (∀ p : PointId, ¬kept p → u.records[p] =
        { RuntimeRecord.cleared with
          timer :=
            if pointUsable s.map.shadowBank.points[p] ∧
                0 < s.map.shadowBank.points[p].entry.staleLimit ∧
                s.listening s.map.shadowBank.points[p].entry.lane then
              some ⟨s.deviceTime,
                BitVec.ofNat 32 (s.map.shadowBank.points[p].entry.staleLimit * 100)⟩
            else none }) ∧
      (∀ k : SlotId, ∃ causes, u.slots[k] = { s.slots[k] with causes := causes } ∧
        causes.Sublist s.slots[k].causes ∧
        (∀ d, Cause.device d ∈ s.slots[k].causes → Cause.device d ∈ causes) ∧
        ∀ p, Cause.point p ∈ s.slots[k].causes → (Cause.point p ∈ causes ↔ kept p)) ∧
      (∀ g : GroupId, u.periodTimers[g] =
        if s.map.shadowBank.groups[g].entry.trigger = .periodic then
          if s.map.activeBank.groups[g].entry = s.map.shadowBank.groups[g].entry ∧
              s.map.activeBank.groups[g].mark = false then
            s.periodTimers[g]
          else
            some ⟨s.deviceTime, BitVec.ofNat 32 (s.map.shadowBank.groups[g].entry.period * 100)⟩
        else none)

/-! ## Group reports -/

/-- A period timer's expiry: an unmarked PERIODIC group in agreement has its report offered, members and
ages from the records as they stand, and its timer starts again from the expiry whatever becomes of the
report; a disagreeing group is marked, its timer stops, and MAP_INTEGRITY is raised; no expiry occurs
before the timer's time. (A command before its timer's time changes nothing: the model's choice,
notes/assumptions/3.md.) -/
def Obligations.PeriodExpiryOffersAReportAndRestarts : Prop :=
  ∀ (s : State) (g : GroupId) (e : Stored GroupEntry), s.inReset = false → e = s.activeGroup g →
    (timerDue s.deviceTime s.periodTimers[g] = false →
      exec (.periodTimerExpiry g) s = .next s) ∧
    (timerDue s.deviceTime s.periodTimers[g] = true → e.mark = false →
      (crc16 e.entry.bytes = e.code → e.entry.trigger = .periodic →
        ∃ members : List ReportMember, members.length = e.entry.length ∧
          (∀ (n : Nat) (h : n < members.length) (p : PointId), p = Fin.ofNat 256 (e.entry.start.val + n) →
            members[n] =
              if pointUsable (s.activePoint p) then
                ⟨p, some s.records[p].condition, s.records[p].lastValue,
                  s.records[p].lastSampleTime.map fun at' => min (s.deviceTime - at').toNat 65535⟩
              else ⟨p, none, none, none⟩) ∧
          exec (.periodTimerExpiry g) s =
            .next (offerData
              (.report ⟨g, .periodic, none, s.map.generation, s.deviceTime, members⟩)
              (s.setPeriodTimer g
                (some ⟨s.deviceTime, BitVec.ofNat 32 (e.entry.period * 100)⟩)))) ∧
      (crc16 e.entry.bytes ≠ e.code →
        exec (.periodTimerExpiry g) s =
          .next (raiseDevice .mapIntegrity
            { s with
              map := s.map.setActiveBank (s.map.activeBank.setGroup g { e with mark := true })
              periodTimers := rowSet s.periodTimers g none })))

/-- TRIGGER_GROUP takes its steps in order: BAD_INDEX above 15; BAD_VALUE naming the trigger for a marked
group, for one found disagreeing, which is marked with its timer stopped and MAP_INTEGRITY raised, and for
trigger OFF; QUEUE_FULL on a full Data queue with no loss counted; otherwise the report with the request's
tag joins the Data queue and the reply carries the timer, QUEUED and the generation. (The layout of its
replies is the model's reading, notes/assumptions/6.md.) -/
def Obligations.TriggerGroupTakesItsStepsInOrder : Prop :=
  ∀ (s : State) (tag : Tag) (b : Byte) (rest : List (List Byte)), Takes s tag 20#8 [b] rest →
    (16 ≤ b.toNat → Answers .triggerGroup s tag rest .badIndex [b] s) ∧
    ∀ (g : GroupId) (e : Stored GroupEntry), b.toNat = g.val → e = s.activeGroup g →
      (e.mark = true →
        Answers .triggerGroup s tag rest .badValue
          ([255#8, b] ++ timerField s.deviceTime s.periodTimers[g] ++ [1#8]) s) ∧
      (e.mark = false → crc16 e.entry.bytes ≠ e.code →
        Answers .triggerGroup s tag rest .badValue ([255#8, b, 255#8, 255#8, 255#8, 255#8, 1#8])
          (raiseDevice .mapIntegrity
            { s with
              map := s.map.setActiveBank (s.map.activeBank.setGroup g { e with mark := true })
              periodTimers := rowSet s.periodTimers g none })) ∧
      (e.mark = false → crc16 e.entry.bytes = e.code →
        (e.entry.trigger = .off →
          Answers .triggerGroup s tag rest .badValue
            ([255#8, b] ++ timerField s.deviceTime s.periodTimers[g] ++ [0#8]) s) ∧
        (e.entry.trigger ≠ .off →
          (32 ≤ s.out.dataQ.length →
            Answers .triggerGroup s tag rest .queueFull
              ([2#8, b] ++ timerField s.deviceTime s.periodTimers[g]) s) ∧
          (s.out.dataQ.length < 32 →
            Answers .triggerGroup s tag rest .ok
              ([b] ++ timerField s.deviceTime s.periodTimers[g] ++ [0#8] ++
                u16 s.map.generation.toNat)
              { s with
                out :=
                  { s.out with
                    dataQ :=
                      s.out.dataQ ++
                        [.report ⟨g, .request, some tag, s.map.generation, s.deviceTime,
                          (groupMembers e.entry).map (reportMember s)⟩] } })))

/-! ## The trunk link -/

/-- A start delimiter in HUNT begins a message; within a message it begins none. A message end with a
message in progress returns the receiver to HUNT: an announced length above 240 is oversize however it
ends, a framing fault or a gap is a check error, a complete message with a disagreeing check code is a
check error and one of any other kind an unknown kind, each counted with nothing else changed; a complete
ATTACH, REQUEST or KEEPALIVE has the effect of its kind. (The message's characters come with its end: the
model's choice, notes/assumptions/11.md.) -/
def Obligations.InboundMessagesAreJudgedAtTheirEnd : Prop :=
  ∀ (s : State) (counted : InboundCounters → State), s.inReset = false →
    (∀ c, counted c = s.setLink { s.link with receiver := none, counters := c }) →
    (s.link.receiver = none →
      exec .trunkMessageBegin s = .next (s.setLink { s.link with receiver := some [] })) ∧
    (s.link.receiver = some [] → exec .trunkMessageBegin s = .next s) ∧
    (s.link.receiver = some [] →
      (∀ (cause : MessageEndCause) (chars : List Byte), messageCharsAgree cause chars = true →
        (∀ kind length tail, chars = kind :: length :: tail → 240 < length.toNat →
          exec (.messageEnd cause chars) s =
            .next (counted { s.link.counters with oversize := s.link.counters.oversize + 1 })) ∧
        (cause ≠ .lastCharacter → (∀ kind length tail, chars = kind :: length :: tail → length.toNat ≤ 240) →
          exec (.messageEnd cause chars) s =
            .next (counted { s.link.counters with checkErrors := s.link.counters.checkErrors + 1 }))) ∧
      (∀ (kind : Byte) (payload : List Byte), payload.length ≤ 240 →
        (∀ code, code.length = 2 → code ≠ codeField (crc16 (kind :: BitVec.ofNat 8 payload.length :: payload)) →
          exec (.messageEnd .lastCharacter
              (kind :: BitVec.ofNat 8 payload.length :: payload ++ code)) s =
            .next (counted { s.link.counters with checkErrors := s.link.counters.checkErrors + 1 })) ∧
        (kind ≠ 1#8 → kind ≠ 2#8 → kind ≠ 3#8 →
          exec (.messageEnd .lastCharacter (inboundChars kind payload)) s =
            .next (counted
              { s.link.counters with unknownKinds := s.link.counters.unknownKinds + 1 })) ∧
        exec (.messageEnd .lastCharacter (inboundChars 1#8 payload)) s = exec (.attach payload) s ∧
        exec (.messageEnd .lastCharacter (inboundChars 2#8 payload)) s = exec (.request payload) s ∧
        exec (.messageEnd .lastCharacter (inboundChars 3#8 payload)) s =
          exec (.keepalive payload) s))

/-- A valid ATTACH opens a session: the link becomes ACTIVE, the wake timer stops, the silence timer starts
unless its timeout is 0, and an ATTACH_REPLY of the map, the restart cause, the time, the parameters and
the capacities joins the Reply queue; on a link that is not OFFLINE the teardown comes first, in full. (The
number of points, 256, is sent in two bytes: the model's reading, notes/assumptions/6.md.) -/
def Obligations.AttachOpensASessionAfterTeardown : Prop :=
  ∀ (s : State) (payload : List Byte), s.inReset = false → s.link.receiver = some [] →
    payload.length ≤ 240 →
    (s.link.state = .offline →
      exec (.attach payload) s =
        .next
          { s with
            link :=
              { s.link with
                state := .active
                receiver := none
                wakeTimer := none
                silenceTimer :=
                  if s.link.params.silenceTimeout = 0 then none
                  else some ⟨s.deviceTime, BitVec.ofNat 32 (s.link.params.silenceTimeout * 1000)⟩ }
            out :=
              { s.out with
                wakeOffer := none
                replyQ :=
                  s.out.replyQ ++
                    [.attachReply ⟨s.map.generation, s.map.active, s.link.restartCause, s.deviceTime,
                      s.link.params⟩] } }) ∧
    (s.link.state ≠ .offline → exec (.attach payload) s = exec (.attach payload) (teardown s)) ∧
    (∀ m : AttachReplyMessage, (Message.attachReply m).payload =
      [0x0A#8, 0x30#8, 0x01#8] ++ u16 m.generation.toNat ++ u8 m.bank.code ++ u8 m.cause.code ++
        u32 m.time ++ u8 m.params.silenceTimeout ++ u8 m.params.wakeInterval ++ u8 m.params.wakeLimit ++
        u16 m.params.ackTimeout ++ u8 m.params.retryLimit ++
        [1#8, 0#8, 16#8, 32#8, 4#8, 4#8, 8#8, 4#8, 8#8, 4#8, 32#8, 4#8, 4#8, 8#8, 240#8])

/-- A valid REQUEST or KEEPALIVE by the link state: OFFLINE discards both and counts the REQUEST; ACTIVE
restarts the silence timer; DORMANT and WAKING become ACTIVE with the wake timer stopped and the silence
timer started; a REQUEST not discarded joins the inbound queue while fewer than four wait, and is otherwise
an inbound overrun. (That a WAKE on offer and not yet started is dropped when the link becomes ACTIVE is the
model's reading, notes/assumptions/9.md.) -/
def Obligations.RequestAndKeepaliveActByLinkState : Prop :=
  ∀ (s : State) (payload : List Byte), s.inReset = false → s.link.receiver = some [] →
    payload.length ≤ 240 →
    (s.link.state = .offline →
      exec (.keepalive payload) s = .next (s.setLink { s.link with receiver := none }) ∧
      exec (.request payload) s =
        .next (s.setLink
          { s.link with
            receiver := none
            counters :=
              { s.link.counters with offlineDiscards := s.link.counters.offlineDiscards + 1 } })) ∧
    (s.link.state ≠ .offline →
      ∀ heard : LinkControl, heard =
        { s.link with
          state := .active
          receiver := none
          wakeTimer := if s.link.state = .active then s.link.wakeTimer else none
          silenceTimer :=
            if s.link.params.silenceTimeout = 0 then none
            else some ⟨s.deviceTime, BitVec.ofNat 32 (s.link.params.silenceTimeout * 1000)⟩ } →
      ∀ out : Outbound, out =
        { s.out with
          wakeOffer := if s.link.state = .active then s.out.wakeOffer else none } →
      exec (.keepalive payload) s = .next { s with link := heard, out := out } ∧
      (s.link.inbound.length < 4 →
        exec (.request payload) s =
          .next { s with link := { heard with inbound := s.link.inbound ++ [payload] }, out := out }) ∧
      (4 ≤ s.link.inbound.length →
        exec (.request payload) s =
          .next
            { s with
              link :=
                { heard with
                  counters := { s.link.counters with overruns := s.link.counters.overruns + 1 } }
              out := out }))

/-- At the silence timer's expiry the session is torn down: OFFLINE, both timers stopped, the inbound
queue, the three outbound queues, the stack and the reply cache emptied, the message in transmission
abandoned with TTXD finishing its character in progress, every Data message counted absorbed and every LAPSE counted not sent, each slot given back the
causes and overflow of its records from the bottom up, confirmed relay frames cancelled, and a long
operation left running with no reply owed; nothing else is changed, and no expiry occurs before the timer's
time. (A command before its timer's time changes nothing: the model's choice, notes/assumptions/3.md; how the
character's time is counted is its reading, notes/assumptions/25.md.) -/
def Obligations.SilenceExpiryTearsTheSessionDown : Prop :=
  ∀ s : State, s.inReset = false →
    (timerDue s.deviceTime s.link.silenceTimer = false →
      exec .silenceTimerExpiry s = .next s) ∧
    (timerDue s.deviceTime s.link.silenceTimer = true →
      ∃ t, exec .silenceTimerExpiry s = .next t ∧ t = teardown s ∧
        t = { s with slots := t.slots, stack := [], pairs := t.pairs, link := t.link, out := t.out,
                     mgmt := t.mgmt, cuts := t.cuts } ∧
        s.trunkCutTo t.cuts ∧
        (∀ k : SlotId, t.slots[k] =
          (s.stack.filter (fun r => r.slot == k)).foldl
            (fun sl r =>
              { r.causes.foldl Slot.raise sl with
                overflow := (r.causes.foldl Slot.raise sl).overflow || r.overflow })
            s.slots[k]) ∧
        (∀ k : PairId, t.pairs[k].mode = s.pairs[k].mode ∧
          t.pairs[k].relay.state = s.pairs[k].relay.state ∧
          t.pairs[k].relay.frames =
            s.pairs[k].relay.frames.map (fun f =>
              { f with confirm := if f.confirm = none then none else some .cancelled })) ∧
        t.link =
          { s.link with state := .offline, silenceTimer := none, wakeTimer := none, inbound := [] } ∧
        (∀ queued, queued = s.out.alertQ ++ s.out.replyQ ++ s.out.dataQ ++ s.out.sending.toList →
          t.out =
            { alertQ := [], replyQ := [], dataQ := [], sending := none, wakeOffer := none
              loss := s.out.loss
              absorbed :=
                s.out.absorbed + BitVec.ofNat 32 (queued.countP (fun m =>
                  m.kind == 0x84 || m.kind == 0x85 || m.kind == 0x86))
              lapseNotSent :=
                s.out.lapseNotSent + BitVec.ofNat 32 (queued.countP (fun m => m.kind == 0x88)) }) ∧
        t.mgmt =
          { s.mgmt with
            cache := []
            tracker := { s.mgmt.tracker with replyOwed := false }
            reservation := false })

/-- At the wake timer's expiry below the wake limit a further WAKE is offered, the count increments and
numbers it, and the timer restarts; at or above the limit the session is torn down; an offered WAKE starts
at once when the transmitter is IDLE. (A command before its timer's time changes nothing: the model's
choice, notes/assumptions/3.md; that the WAKE starts in the event of its offer is its reading,
notes/assumptions/9.md.) -/
def Obligations.WakeExpiryOffersAWakeOrTearsDown : Prop :=
  ∀ s : State, s.inReset = false →
    (timerDue s.deviceTime s.link.wakeTimer = false → exec .wakeTimerExpiry s = .next s) ∧
    (timerDue s.deviceTime s.link.wakeTimer = true →
      (s.link.params.wakeLimit ≤ s.link.wakeCount →
        exec .wakeTimerExpiry s = .next (teardown s)) ∧
      (s.link.wakeCount < s.link.params.wakeLimit → s.out.sending = none → ∀ level : Nat,
        (level = 4 ∧ (∀ k : SlotId, ¬s.selectable k) ∨
          ∃ best : SlotId, s.selectable best ∧ level = s.slots[best].level.val ∧
            ∀ j : SlotId, s.selectable j → s.slots[best].level ≤ s.slots[j].level) →
        exec .wakeTimerExpiry s =
          .next
            { s with
              link :=
                { s.link with
                  wakeCount := s.link.wakeCount + 1
                  wakeTimer :=
                    some ⟨s.deviceTime, BitVec.ofNat 32 (s.link.params.wakeInterval * 1000)⟩ }
              out :=
                { s.out with
                  sending := some (.wake ⟨s.link.wakeCount + 1, level, s.deviceTime⟩) } }))

/-- SET_TRUNK refuses the first parameter out of its range in the order of R162, naming it and changing
nothing; otherwise it replaces all five, restarts the silence timer with the new timeout or stops it, and
answers the five values. ENTER_DORMANT is refused with ALERTS_OUTSTANDING and both counts while the stack
or the Alert queue is not empty, and is otherwise answered OK with the link as it was; RESTART is
answered OK with the device time and changes nothing else at its take. -/
def Obligations.TrunkRequestsAreCheckedAndAnswered : Prop :=
  (∀ (s : State) (tag : Tag) (b0 b1 b2 b3 b4 b5 : Byte) (rest : List (List Byte)),
     Takes s tag 21#8 [b0, b1, b2, b3, b4, b5] rest → ∀ ack : Nat, ack = b3.toNat * 256 + b4.toNat →
     ∀ refused : Option Byte,
       refused =
         (if b1.toNat = 0 ∨ 60 < b1.toNat then some 2#8
           else if b2.toNat = 0 ∨ 15 < b2.toNat then some 3#8
           else if ack = 0 ∨ 600 < ack then some 4#8
           else if 7 < b5.toNat then some 5#8 else none) →
       (∀ field, refused = some field → Answers .setTrunk s tag rest .badValue [field] s) ∧
       (refused = none →
         Answers .setTrunk s tag rest .ok [b0, b1, b2, b3, b4, b5]
           (s.setLink
             { s.link with
               params := ⟨b0.toNat, b1.toNat, b2.toNat, ack, b5.toNat⟩
               silenceTimer :=
                 if b0.toNat = 0 then none
                 else some ⟨s.deviceTime, BitVec.ofNat 32 (b0.toNat * 1000)⟩ }))) ∧
  (∀ (s : State) (tag : Tag) (rest : List (List Byte)),
     (Takes s tag 22#8 [] rest →
       (s.stack = [] → s.out.alertQ = [] → Answers .enterDormant s tag rest .ok [] s) ∧
       (s.stack ≠ [] ∨ s.out.alertQ ≠ [] →
         Answers .enterDormant s tag rest .alertsOutstanding
           (u8 s.stack.length ++ u8 s.out.alertQ.length) s)) ∧
     (Takes s tag 24#8 [] rest → Answers .restart s tag rest .ok (u32 s.deviceTime) s))

/-- READ_DEVICE answers every group of R193 from the state at its take, with the request already removed
and the cache's room already made, before its own reply and cache entry (which of the two the manual leaves
to inference, notes/assumptions/14.md), and changes nothing. (How the class is encoded while no message is
sent is the model's reading, notes/assumptions/6.md; that the Reply queue's messages and its reservations are
two counts is its choice, notes/assumptions/24.md.) -/
def Obligations.ReadDeviceShowsEveryGroup : Prop :=
  ∀ (s : State) (tag : Tag) (rest : List (List Byte)), Takes s tag 23#8 [] rest →
    ∀ (t : Tracker) (p : TrunkParams) (c : InboundCounters), t = s.mgmt.tracker → p = s.link.params →
    c = s.link.counters →
    Answers .readDevice s tag rest .ok
      ([0x0A#8, 0x30#8, 0x01#8] ++ u32 s.deviceTime ++ u8 s.link.restartCause.code ++
        (u8 s.map.active.code ++ u16 s.map.generation.toNat ++ u8 t.operation.code ++ u8 t.phase.code ++
          u16 t.position ++ yesNo t.replyOwed) ++
        (u8 s.link.state.code ++ timerField s.deviceTime s.link.silenceTimer ++
          timerField s.deviceTime s.link.wakeTimer ++ u8 s.link.wakeCount ++ u8 rest.length) ++
        (u8 p.silenceTimeout ++ u8 p.wakeInterval ++ u8 p.wakeLimit ++ u16 p.ackTimeout ++
          u8 p.retryLimit) ++
        (u32 c.checkErrors ++ u32 c.unknownKinds ++ u32 c.oversize ++ u32 c.overruns ++
          u32 c.offlineDiscards) ++
        (u8 s.out.alertQ.length ++ u8 s.out.replyQ.length ++ u8 s.reservations ++
          u8 s.out.dataQ.length ++
          (match s.out.sending with
            | none => [0#8, 0#8, 0#8]
            | some m => [1#8, 1#8] ++ u8 m.trunkClass.code)) ++
        (u32 s.out.loss ++ u32 s.out.absorbed ++ u32 s.out.lapseNotSent) ++
        (u8 s.stack.length ++
          u8 (match s.stack.getLast? with | none => 4 | some r => r.level.val) ++ [s.alertCounter]) ++
        s.routing.toList.flatMap (fun route =>
          match route with | none => [255#8] | some k => u8 k.val) ++
        (s.pairs.toList.flatMap (fun x => u8 x.mode.code) ++
          s.lanes.toList.flatMap (fun x => u8 x.state.code)) ++
        (u8 (cacheRoom s.mgmt.cache tag).length ++
          (cacheRoom s.mgmt.cache tag).flatMap (fun e =>
            [e.tag, e.op, if e.reply = none then 0#8 else 1#8]) ++ u32 s.mgmt.shortRequests)) s

/-! ## Transmission -/

/-- An IDLE transmitter starts, on an ACTIVE link, the head of the Alert queue, else of the Reply queue, else
of the Data queue, and on a WAKING link the offered WAKE; a started ALERT makes its QUEUED record SENDING;
while SENDING, with nothing eligible, in DORMANT and in OFFLINE it starts nothing. (That a start finds the
character of an earlier transmission cut short finished is the model's reading, notes/assumptions/25.md.) -/
def Obligations.TransmissionStartsByClassPriority : Prop :=
  ∀ (s : State) (quiet : CutLines), s.inReset = false → quiet = { s.cuts with trunk := none } →
    (∀ m, s.out.sending = some m → exec .transmissionStart s = .next s) ∧
    (s.link.state = .dormant ∨ s.link.state = .offline → exec .transmissionStart s = .next s) ∧
    (s.out.sending = none → s.link.state = .active →
      (∀ a queue, s.out.alertQ = .alert a :: queue →
        exec .transmissionStart s =
          .next
            { s with
              out := { s.out with alertQ := queue, sending := some (.alert a) }
              cuts := quiet
              stack :=
                s.stack.map fun r =>
                  if r.number = a.number ∧ r.state = .queued then { r with state := .sending }
                  else r }) ∧
      (∀ m queue, s.out.alertQ = m :: queue → m.kind ≠ 0x87 →
        exec .transmissionStart s =
          .next { s with out := { s.out with alertQ := queue, sending := some m }, cuts := quiet }) ∧
      (∀ m queue, s.out.alertQ = [] → s.out.replyQ = m :: queue → m.kind ≠ 0x87 →
        exec .transmissionStart s =
          .next { s with out := { s.out with replyQ := queue, sending := some m }, cuts := quiet }) ∧
      (∀ m queue, s.out.alertQ = [] → s.out.replyQ = [] → s.out.dataQ = m :: queue → m.kind ≠ 0x87 →
        exec .transmissionStart s =
          .next { s with out := { s.out with dataQ := queue, sending := some m }, cuts := quiet }) ∧
      (s.out.alertQ = [] → s.out.replyQ = [] → s.out.dataQ = [] →
        exec .transmissionStart s = .next s)) ∧
    (s.out.sending = none → s.link.state = .waking →
      (∀ m, s.out.wakeOffer = some m → m.kind = 0x89 →
        exec .transmissionStart s =
          .next { s with out := { s.out with wakeOffer := none, sending := some m }, cuts := quiet }) ∧
      (s.out.wakeOffer = none → exec .transmissionStart s = .next s))

/-- A completed ALERT makes its SENDING record AWAITING with its timer started, and finds no record when it
has been popped; a completed ATTACH_REPLY sets the restart cause to NONE; every other message but the
dormancy and restart replies only leaves the transmitter IDLE. At a dormancy reply's completion the link
enters DORMANT exactly when it is ACTIVE and the stack, the Alert queue, the Reply queue with its
reservations and the inbound queue are empty: the silence timer stops and the Data queue is flushed and
counted absorbed; when a condition fails nothing more happens. When the wake demand holds at the entry the
link goes on to WAKING in the same event: the wake count is 1, the wake timer starts, and WAKE 1 starts with
the best pending level and the device time. (A completion while no message is sent changes nothing: the
model's choice, notes/assumptions/3.md; that the WAKE starts in the event of its offer is its reading,
notes/assumptions/9.md.) -/
def Obligations.TransmissionCompletionReportsByKindAndEntersDormant : Prop :=
  (∀ (s idle : State), s.inReset = false → idle = s.setOut { s.out with sending := none } →
     (s.out.sending = none → exec .transmissionCompletion s = .next s) ∧
     (∀ a, s.out.sending = some (.alert a) →
       exec .transmissionCompletion s =
         .next
           { idle with
             stack :=
               s.stack.map fun r =>
                 if r.number = a.number ∧ r.state = .sending then
                   { r with
                     state := .awaiting
                     timer :=
                       some ⟨s.deviceTime, BitVec.ofNat 32 (s.link.params.ackTimeout * 100)⟩ }
                 else r }) ∧
     (∀ m, s.out.sending = some (.attachReply m) →
       exec .transmissionCompletion s =
         .next { idle with link := { s.link with restartCause := .none } }) ∧
     (∀ r, s.out.sending = some (.reply r) → (r.status ≠ .ok ∨ (r.op ≠ 22#8 ∧ r.op ≠ 24#8)) →
       exec .transmissionCompletion s = .next idle) ∧
     (∀ m, s.out.sending = some m → (∀ a, m ≠ .alert a) → (∀ a, m ≠ .attachReply a) →
       (∀ r, m ≠ .reply r) → exec .transmissionCompletion s = .next idle)) ∧
  (∀ (s idle : State) (r : Reply), s.inReset = false → s.out.sending = some (.reply r) →
     r.status = .ok → r.op = 22#8 → idle = s.setOut { s.out with sending := none } →
     ∀ allowed : Prop,
       allowed =
         (s.link.state = .active ∧ s.stack = [] ∧ s.out.alertQ = [] ∧ s.out.replyQ = [] ∧
           s.reservations = 0 ∧ s.link.inbound = []) →
       (¬allowed → exec .transmissionCompletion s = .next idle) ∧
       (allowed → (∀ k : SlotId, ¬s.selectable k) →
         exec .transmissionCompletion s =
           .next
             { s with
               link := { s.link with state := .dormant, silenceTimer := none }
               out :=
                 { s.out with
                   sending := none
                   dataQ := []
                   absorbed := s.out.absorbed + BitVec.ofNat 32 s.out.dataQ.length } }) ∧
       (allowed → ∀ best : SlotId, s.selectable best →
         (∀ j : SlotId, s.selectable j → s.slots[best].level ≤ s.slots[j].level) →
         exec .transmissionCompletion s =
           .next
             { s with
               link :=
                 { s.link with
                   state := .waking
                   silenceTimer := none
                   wakeCount := 1
                   wakeTimer :=
                     some ⟨s.deviceTime, BitVec.ofNat 32 (s.link.params.wakeInterval * 1000)⟩ }
               out :=
                 { s.out with
                   sending := some (.wake ⟨1, s.slots[best].level.val, s.deviceTime⟩)
                   dataQ := []
                   absorbed := s.out.absorbed + BitVec.ofNat 32 s.out.dataQ.length } }))

/-! ## Management requests -/

/-- A request whose tag and operation code stand in the cache is not executed, whatever its operands: a DONE
entry's reply is placed again, an IN_PROGRESS entry's copy is discarded without a reply; a new entry finds
room by removing the entry of the same tag, or the oldest of eight; and with no free Reply queue entry no
request is taken. -/
def Obligations.CachedRequestsAreNotExecuted : Prop :=
  (∀ (o : Operation) (s : State) (tag : Tag) (operands : List Byte) (rest : List (List Byte)),
    s.inReset = false → s.link.inbound = (tag :: o.code :: operands) :: rest →
    (s.replyFree = 0 → exec o.command s = .next s) ∧
    (0 < s.replyFree → ∀ before e after, s.mgmt.cache = before ++ e :: after → e.tag = tag →
      e.op = o.code → (∀ x ∈ before, x.tag ≠ tag) →
      (∀ r, e.reply = some r →
        exec o.command s =
          .next
            { s with
              link := { s.link with inbound := rest }
              out := { s.out with replyQ := s.out.replyQ ++ [.reply r] } }) ∧
      (e.reply = none → exec o.command s = .next { s with link := { s.link with inbound := rest } }))) ∧
  (∀ (cache : List CacheEntry) (tag : Tag),
    ((∃ e ∈ cache, e.tag = tag) → cacheRoom cache tag = cache.filter (fun e => e.tag != tag)) ∧
    ((∀ e ∈ cache, e.tag ≠ tag) →
      (cache.length < 8 → cacheRoom cache tag = cache) ∧
      (∀ oldest others, cache = oldest :: others → 8 ≤ cache.length →
        cacheRoom cache tag = others)))

/-- An operation code 0 or 25 to 255 is answered BAD_OP with the code as received and nothing more; a request
of the wrong operand length is BAD_VALUE naming OPERANDS; both change nothing. A request too short for
its header is removed, counted, not answered and not cached; nothing else is changed. (That a TRIGGER_GROUP
of the wrong length carries no group and no timer is the model's choice, notes/assumptions/22.md.) -/
def Obligations.MalformedRequestsAreRefusedOrCounted : Prop :=
  ((∀ (s : State) (tag : Tag) (op : Byte) (operands : List Byte) (rest : List (List Byte)),
     Takes s tag op operands rest → (op.toNat = 0 ∨ 25 ≤ op.toNat) →
     exec .badOp s = .next (replied rest ⟨tag, op, .badOp, []⟩ s)) ∧
   (∀ (o : Operation) (s : State) (tag : Tag) (operands : List Byte) (rest : List (List Byte)),
     Takes s tag o.code operands rest → operands.length ≠ o.operandCount operands →
     Answers o s tag rest .badValue [0#8] s)) ∧
  (∀ (s : State) (payload : List Byte) (rest : List (List Byte)), s.inReset = false →
     s.link.inbound = payload :: rest → payload.length < 2 → 0 < s.replyFree →
     exec .shortRequest s =
       .next
         { s with
           link := { s.link with inbound := rest }
           mgmt := { s.mgmt with shortRequests := s.mgmt.shortRequests + 1 } })

/-! ## Laws that every step keeps -/

/-- Every step keeps every slot's cause set at eight entries or fewer without duplicates. -/
def Obligations.EveryStepKeepsCauseSetsLegal : Prop := KeptByEveryStep State.slotsLegal

/-- Every step keeps the in-service stack at four records or fewer, the levels falling strictly from bottom
to top, with no slot and no alert number in two records. -/
def Obligations.EveryStepKeepsTheStackNested : Prop := KeptByEveryStep State.stackLegal

/-- Every step keeps every lane's counters in balance: frames ended is the sum of the six outcome counters,
modulo 2^32. -/
def Obligations.EveryStepKeepsLaneCountersBalanced : Prop := KeptByEveryStep State.lanesBalanced

/-- Every step keeps every entry of both banks in the ranges of R3, R4 and R7, every mark of the shadow bank
clear, and every record's vote count legal for its condition. -/
def Obligations.EveryStepKeepsTheMapAndVotesInRange : Prop := KeptByEveryStep State.mapLegal

/-- Every step keeps every queue within its capacity with the reservations counted, and, while the link is
not ACTIVE, the outbound queues, the inbound queue and the stack empty with nothing reserved. -/
def Obligations.EveryStepKeepsQueuesWithinTheSession : Prop := KeptByEveryStep State.sessionLegal

/-- Every step keeps the Alert queue matched to the stack: every ALERT in it belongs to a QUEUED record, and
each record has exactly one there while QUEUED and none otherwise; and a message offered outside the queues
stays a WAKE. The nested stack is part of the law kept. -/
def Obligations.EveryStepKeepsAlertsMatchedToTheStack : Prop :=
  KeptByEveryStep fun s => s.stackLegal ∧ s.alertsLegal

/-- Every step keeps the key index equal to the valid entries of the active bank with no key twice, and
every point whose entry is invalid or marked or whose lane is not listening UNKNOWN with a stopped timer. -/
def Obligations.EveryStepKeepsUnheardPointsUnknown : Prop :=
  KeptByEveryStep fun s => s.indexLegal ∧ s.hearingLegal

/-- The state after reset is a power-on reset that the part has left with strap code 0, with no command
waiting (the released part and strap code 0 are the model's choices, notes/assumptions/4.md, as is the queue,
notes/assumptions/2.md), and it meets every law that every step keeps. -/
def Obligations.ResetStateIsReleasedPowerOnAndMeetsEveryLaw : Prop :=
  (∃ s t, exec (.coldReset .powerOn) s = .next t ∧ exec (.resetRelease 0) t = .next State.reset) ∧
  State.reset.pending = [] ∧
  (State.reset.slotsLegal ∧ State.reset.stackLegal ∧ State.reset.lanesBalanced ∧
     State.reset.mapLegal ∧ State.reset.sessionLegal ∧ State.reset.alertsLegal ∧
     State.reset.indexLegal ∧ State.reset.hearingLegal)

end
end

