-- ==== Sys2Proof/Laws/Alerts.lean ====
section
/-! SUPPORT. What the stack operations do to a nested stack: one record rewritten or removed, and the first
free alert number. -/

namespace Sys2Proof.Machine

/-- In a nested stack a record's number stands nowhere else (R68). -/
theorem stackNested.others {below above : List InService} {r : InService}
    (h : stackNested (below ++ r :: above)) :
    (∀ x ∈ below, x.number ≠ r.number) ∧ ∀ x ∈ above, x.number ≠ r.number := by
  obtain ⟨-, upper, across⟩ := List.pairwise_append.mp h
  exact ⟨fun x hx => ((across x hx r (by simp)).2.2).symm,
    fun x hx => ((List.pairwise_cons.mp upper).1 x hx).2.2⟩

/-- Rewriting a number that no record holds changes nothing. -/
theorem updateRecord_absent {number : AlertNumber} {stack : List InService} (change : InService → InService)
    (h : ∀ x ∈ stack, x.number ≠ number) : updateRecord number change stack = stack := by
  unfold updateRecord
  conv_rhs => rw [← List.map_id stack]
  exact List.map_congr_left fun x hx => by rw [if_neg (h x hx)]; rfl

/-- Rewriting a record of a nested stack by its number rewrites it alone. -/
theorem updateRecord_split {below above : List InService} {r : InService}
    (h : stackNested (below ++ r :: above)) (change : InService → InService) :
    updateRecord r.number change (below ++ r :: above) = below ++ change r :: above := by
  have low := updateRecord_absent change h.others.1
  have high := updateRecord_absent change h.others.2
  unfold updateRecord at *
  rw [List.map_append, List.map_cons, low, high, if_pos rfl]

/-- Removing a record of a nested stack by its number removes it alone. -/
theorem filter_number_split {below above : List InService} {r : InService}
    (h : stackNested (below ++ r :: above)) :
    (below ++ r :: above).filter (fun x => x.number != r.number) = below ++ above := by
  rw [List.filter_append, List.filter_cons_of_neg (by simp),
    List.filter_eq_self.mpr (by simpa using h.others.1),
    List.filter_eq_self.mpr (by simpa using h.others.2)]

/-- The search for a free number skips numbers that stand in the stack, and stops at the first that does
not, or when its steps run out (R68). -/
theorem freeNumber_spec (stack : List InService) (steps : Nat) (n : AlertNumber) :
    ∃ skipped : Nat, skipped ≤ steps ∧ freeNumber stack steps n = n + BitVec.ofNat 8 skipped ∧
      (∀ d, d < skipped → ∃ r ∈ stack, r.number = n + BitVec.ofNat 8 d) ∧
      (skipped < steps → ∀ r ∈ stack, r.number ≠ n + BitVec.ofNat 8 skipped) := by
  induction steps generalizing n with
  | zero => exact ⟨0, le_refl _, by simp [freeNumber], by simp, by simp⟩
  | succ k ih =>
    unfold freeNumber
    by_cases h : stack.any (fun r => r.number == n) = true
    · rw [if_pos h]
      obtain ⟨d, small, found, skip, stop⟩ := ih (n + 1)
      have shift : ∀ x, n + 1 + BitVec.ofNat 8 x = n + BitVec.ofNat 8 (x + 1) := by
        intro x
        rw [BitVec.ofNat_add, BitVec.add_assoc, BitVec.add_comm 1]
        rfl
      refine ⟨d + 1, by omega, by rw [found, shift], fun x hx => ?_, fun hd => ?_⟩
      · cases x with
        | zero =>
          simp only [List.any_eq_true, beq_iff_eq] at h
          obtain ⟨r, hr, e⟩ := h
          exact ⟨r, hr, by simp [e]⟩
        | succ x => simpa only [shift] using skip x (by omega)
      · simpa only [shift] using stop (by omega)
    · rw [if_neg h]
      refine ⟨0, by omega, by simp, by simp, fun _ r hr e => h ?_⟩
      simp only [BitVec.add_zero] at e
      simp only [List.any_eq_true, beq_iff_eq]
      exact ⟨r, hr, e⟩

end Sys2Proof.Machine
end

