-- ==== Sys2Proof/Laws/State.lean ====
section
/-! SUPPORT. One lemma per field per named update of the state, true by `rfl`: no later proof unfolds a
record update. -/

namespace Sys2Proof.Machine

variable (s : State)

@[simp] theorem State.setRecord_pending (p : PointId) (r : RuntimeRecord) :
    (s.setRecord p r).pending = s.pending := rfl
@[simp] theorem State.setRecord_inReset (p : PointId) (r : RuntimeRecord) :
    (s.setRecord p r).inReset = s.inReset := rfl
@[simp] theorem State.setRecord_deviceTime (p : PointId) (r : RuntimeRecord) :
    (s.setRecord p r).deviceTime = s.deviceTime := rfl
@[simp] theorem State.setRecord_trunkRate (p : PointId) (r : RuntimeRecord) :
    (s.setRecord p r).trunkRate = s.trunkRate := rfl
@[simp] theorem State.setRecord_map (p : PointId) (r : RuntimeRecord) :
    (s.setRecord p r).map = s.map := rfl
@[simp] theorem State.setRecord_records (p : PointId) (r : RuntimeRecord) :
    (s.setRecord p r).records = rowSet s.records p r := rfl
@[simp] theorem State.setRecord_servicePointer (p : PointId) (r : RuntimeRecord) :
    (s.setRecord p r).servicePointer = s.servicePointer := rfl
@[simp] theorem State.setRecord_periodTimers (p : PointId) (r : RuntimeRecord) :
    (s.setRecord p r).periodTimers = s.periodTimers := rfl
@[simp] theorem State.setRecord_slots (p : PointId) (r : RuntimeRecord) :
    (s.setRecord p r).slots = s.slots := rfl
@[simp] theorem State.setRecord_routing (p : PointId) (r : RuntimeRecord) :
    (s.setRecord p r).routing = s.routing := rfl
@[simp] theorem State.setRecord_stack (p : PointId) (r : RuntimeRecord) :
    (s.setRecord p r).stack = s.stack := rfl
@[simp] theorem State.setRecord_alertCounter (p : PointId) (r : RuntimeRecord) :
    (s.setRecord p r).alertCounter = s.alertCounter := rfl
@[simp] theorem State.setRecord_lanes (p : PointId) (r : RuntimeRecord) :
    (s.setRecord p r).lanes = s.lanes := rfl
@[simp] theorem State.setRecord_pairs (p : PointId) (r : RuntimeRecord) :
    (s.setRecord p r).pairs = s.pairs := rfl
@[simp] theorem State.setRecord_link (p : PointId) (r : RuntimeRecord) :
    (s.setRecord p r).link = s.link := rfl
@[simp] theorem State.setRecord_out (p : PointId) (r : RuntimeRecord) :
    (s.setRecord p r).out = s.out := rfl
@[simp] theorem State.setRecord_mgmt (p : PointId) (r : RuntimeRecord) :
    (s.setRecord p r).mgmt = s.mgmt := rfl
@[simp] theorem State.setRecord_cuts (p : PointId) (r : RuntimeRecord) :
    (s.setRecord p r).cuts = s.cuts := rfl

@[simp] theorem State.setSlot_pending (k : SlotId) (sl : Slot) :
    (s.setSlot k sl).pending = s.pending := rfl
@[simp] theorem State.setSlot_inReset (k : SlotId) (sl : Slot) :
    (s.setSlot k sl).inReset = s.inReset := rfl
@[simp] theorem State.setSlot_deviceTime (k : SlotId) (sl : Slot) :
    (s.setSlot k sl).deviceTime = s.deviceTime := rfl
@[simp] theorem State.setSlot_trunkRate (k : SlotId) (sl : Slot) :
    (s.setSlot k sl).trunkRate = s.trunkRate := rfl
@[simp] theorem State.setSlot_map (k : SlotId) (sl : Slot) : (s.setSlot k sl).map = s.map := rfl
@[simp] theorem State.setSlot_records (k : SlotId) (sl : Slot) :
    (s.setSlot k sl).records = s.records := rfl
@[simp] theorem State.setSlot_servicePointer (k : SlotId) (sl : Slot) :
    (s.setSlot k sl).servicePointer = s.servicePointer := rfl
@[simp] theorem State.setSlot_periodTimers (k : SlotId) (sl : Slot) :
    (s.setSlot k sl).periodTimers = s.periodTimers := rfl
@[simp] theorem State.setSlot_slots (k : SlotId) (sl : Slot) :
    (s.setSlot k sl).slots = rowSet s.slots k sl := rfl
@[simp] theorem State.setSlot_routing (k : SlotId) (sl : Slot) :
    (s.setSlot k sl).routing = s.routing := rfl
@[simp] theorem State.setSlot_stack (k : SlotId) (sl : Slot) :
    (s.setSlot k sl).stack = s.stack := rfl
@[simp] theorem State.setSlot_alertCounter (k : SlotId) (sl : Slot) :
    (s.setSlot k sl).alertCounter = s.alertCounter := rfl
@[simp] theorem State.setSlot_lanes (k : SlotId) (sl : Slot) :
    (s.setSlot k sl).lanes = s.lanes := rfl
@[simp] theorem State.setSlot_pairs (k : SlotId) (sl : Slot) :
    (s.setSlot k sl).pairs = s.pairs := rfl
@[simp] theorem State.setSlot_link (k : SlotId) (sl : Slot) : (s.setSlot k sl).link = s.link := rfl
@[simp] theorem State.setSlot_out (k : SlotId) (sl : Slot) : (s.setSlot k sl).out = s.out := rfl
@[simp] theorem State.setSlot_mgmt (k : SlotId) (sl : Slot) : (s.setSlot k sl).mgmt = s.mgmt := rfl
@[simp] theorem State.setSlot_cuts (k : SlotId) (sl : Slot) : (s.setSlot k sl).cuts = s.cuts := rfl

@[simp] theorem State.setLane_pending (l : LaneId) (x : Lane) :
    (s.setLane l x).pending = s.pending := rfl
@[simp] theorem State.setLane_inReset (l : LaneId) (x : Lane) :
    (s.setLane l x).inReset = s.inReset := rfl
@[simp] theorem State.setLane_deviceTime (l : LaneId) (x : Lane) :
    (s.setLane l x).deviceTime = s.deviceTime := rfl
@[simp] theorem State.setLane_trunkRate (l : LaneId) (x : Lane) :
    (s.setLane l x).trunkRate = s.trunkRate := rfl
@[simp] theorem State.setLane_map (l : LaneId) (x : Lane) : (s.setLane l x).map = s.map := rfl
@[simp] theorem State.setLane_records (l : LaneId) (x : Lane) :
    (s.setLane l x).records = s.records := rfl
@[simp] theorem State.setLane_servicePointer (l : LaneId) (x : Lane) :
    (s.setLane l x).servicePointer = s.servicePointer := rfl
@[simp] theorem State.setLane_periodTimers (l : LaneId) (x : Lane) :
    (s.setLane l x).periodTimers = s.periodTimers := rfl
@[simp] theorem State.setLane_slots (l : LaneId) (x : Lane) : (s.setLane l x).slots = s.slots := rfl
@[simp] theorem State.setLane_routing (l : LaneId) (x : Lane) :
    (s.setLane l x).routing = s.routing := rfl
@[simp] theorem State.setLane_stack (l : LaneId) (x : Lane) : (s.setLane l x).stack = s.stack := rfl
@[simp] theorem State.setLane_alertCounter (l : LaneId) (x : Lane) :
    (s.setLane l x).alertCounter = s.alertCounter := rfl
@[simp] theorem State.setLane_lanes (l : LaneId) (x : Lane) :
    (s.setLane l x).lanes = rowSet s.lanes l x := rfl
@[simp] theorem State.setLane_pairs (l : LaneId) (x : Lane) : (s.setLane l x).pairs = s.pairs := rfl
@[simp] theorem State.setLane_link (l : LaneId) (x : Lane) : (s.setLane l x).link = s.link := rfl
@[simp] theorem State.setLane_out (l : LaneId) (x : Lane) : (s.setLane l x).out = s.out := rfl
@[simp] theorem State.setLane_mgmt (l : LaneId) (x : Lane) : (s.setLane l x).mgmt = s.mgmt := rfl
@[simp] theorem State.setLane_cuts (l : LaneId) (x : Lane) : (s.setLane l x).cuts = s.cuts := rfl

@[simp] theorem State.setPair_pending (k : PairId) (x : Pair) :
    (s.setPair k x).pending = s.pending := rfl
@[simp] theorem State.setPair_inReset (k : PairId) (x : Pair) :
    (s.setPair k x).inReset = s.inReset := rfl
@[simp] theorem State.setPair_deviceTime (k : PairId) (x : Pair) :
    (s.setPair k x).deviceTime = s.deviceTime := rfl
@[simp] theorem State.setPair_trunkRate (k : PairId) (x : Pair) :
    (s.setPair k x).trunkRate = s.trunkRate := rfl
@[simp] theorem State.setPair_map (k : PairId) (x : Pair) : (s.setPair k x).map = s.map := rfl
@[simp] theorem State.setPair_records (k : PairId) (x : Pair) :
    (s.setPair k x).records = s.records := rfl
@[simp] theorem State.setPair_servicePointer (k : PairId) (x : Pair) :
    (s.setPair k x).servicePointer = s.servicePointer := rfl
@[simp] theorem State.setPair_periodTimers (k : PairId) (x : Pair) :
    (s.setPair k x).periodTimers = s.periodTimers := rfl
@[simp] theorem State.setPair_slots (k : PairId) (x : Pair) : (s.setPair k x).slots = s.slots := rfl
@[simp] theorem State.setPair_routing (k : PairId) (x : Pair) :
    (s.setPair k x).routing = s.routing := rfl
@[simp] theorem State.setPair_stack (k : PairId) (x : Pair) : (s.setPair k x).stack = s.stack := rfl
@[simp] theorem State.setPair_alertCounter (k : PairId) (x : Pair) :
    (s.setPair k x).alertCounter = s.alertCounter := rfl
@[simp] theorem State.setPair_lanes (k : PairId) (x : Pair) : (s.setPair k x).lanes = s.lanes := rfl
@[simp] theorem State.setPair_pairs (k : PairId) (x : Pair) :
    (s.setPair k x).pairs = rowSet s.pairs k x := rfl
@[simp] theorem State.setPair_link (k : PairId) (x : Pair) : (s.setPair k x).link = s.link := rfl
@[simp] theorem State.setPair_out (k : PairId) (x : Pair) : (s.setPair k x).out = s.out := rfl
@[simp] theorem State.setPair_mgmt (k : PairId) (x : Pair) : (s.setPair k x).mgmt = s.mgmt := rfl
@[simp] theorem State.setPair_cuts (k : PairId) (x : Pair) : (s.setPair k x).cuts = s.cuts := rfl

@[simp] theorem State.setPeriodTimer_pending (g : GroupId) (t : Option Timer) :
    (s.setPeriodTimer g t).pending = s.pending := rfl
@[simp] theorem State.setPeriodTimer_inReset (g : GroupId) (t : Option Timer) :
    (s.setPeriodTimer g t).inReset = s.inReset := rfl
@[simp] theorem State.setPeriodTimer_deviceTime (g : GroupId) (t : Option Timer) :
    (s.setPeriodTimer g t).deviceTime = s.deviceTime := rfl
@[simp] theorem State.setPeriodTimer_trunkRate (g : GroupId) (t : Option Timer) :
    (s.setPeriodTimer g t).trunkRate = s.trunkRate := rfl
@[simp] theorem State.setPeriodTimer_map (g : GroupId) (t : Option Timer) :
    (s.setPeriodTimer g t).map = s.map := rfl
@[simp] theorem State.setPeriodTimer_records (g : GroupId) (t : Option Timer) :
    (s.setPeriodTimer g t).records = s.records := rfl
@[simp] theorem State.setPeriodTimer_servicePointer (g : GroupId) (t : Option Timer) :
    (s.setPeriodTimer g t).servicePointer = s.servicePointer := rfl
@[simp] theorem State.setPeriodTimer_periodTimers (g : GroupId) (t : Option Timer) :
    (s.setPeriodTimer g t).periodTimers = rowSet s.periodTimers g t := rfl
@[simp] theorem State.setPeriodTimer_slots (g : GroupId) (t : Option Timer) :
    (s.setPeriodTimer g t).slots = s.slots := rfl
@[simp] theorem State.setPeriodTimer_routing (g : GroupId) (t : Option Timer) :
    (s.setPeriodTimer g t).routing = s.routing := rfl
@[simp] theorem State.setPeriodTimer_stack (g : GroupId) (t : Option Timer) :
    (s.setPeriodTimer g t).stack = s.stack := rfl
@[simp] theorem State.setPeriodTimer_alertCounter (g : GroupId) (t : Option Timer) :
    (s.setPeriodTimer g t).alertCounter = s.alertCounter := rfl
@[simp] theorem State.setPeriodTimer_lanes (g : GroupId) (t : Option Timer) :
    (s.setPeriodTimer g t).lanes = s.lanes := rfl
@[simp] theorem State.setPeriodTimer_pairs (g : GroupId) (t : Option Timer) :
    (s.setPeriodTimer g t).pairs = s.pairs := rfl
@[simp] theorem State.setPeriodTimer_link (g : GroupId) (t : Option Timer) :
    (s.setPeriodTimer g t).link = s.link := rfl
@[simp] theorem State.setPeriodTimer_out (g : GroupId) (t : Option Timer) :
    (s.setPeriodTimer g t).out = s.out := rfl
@[simp] theorem State.setPeriodTimer_mgmt (g : GroupId) (t : Option Timer) :
    (s.setPeriodTimer g t).mgmt = s.mgmt := rfl
@[simp] theorem State.setPeriodTimer_cuts (g : GroupId) (t : Option Timer) :
    (s.setPeriodTimer g t).cuts = s.cuts := rfl

@[simp] theorem State.setStack_pending (x : List InService) :
    (s.setStack x).pending = s.pending := rfl
@[simp] theorem State.setStack_inReset (x : List InService) :
    (s.setStack x).inReset = s.inReset := rfl
@[simp] theorem State.setStack_deviceTime (x : List InService) :
    (s.setStack x).deviceTime = s.deviceTime := rfl
@[simp] theorem State.setStack_trunkRate (x : List InService) :
    (s.setStack x).trunkRate = s.trunkRate := rfl
@[simp] theorem State.setStack_map (x : List InService) : (s.setStack x).map = s.map := rfl
@[simp] theorem State.setStack_records (x : List InService) :
    (s.setStack x).records = s.records := rfl
@[simp] theorem State.setStack_servicePointer (x : List InService) :
    (s.setStack x).servicePointer = s.servicePointer := rfl
@[simp] theorem State.setStack_periodTimers (x : List InService) :
    (s.setStack x).periodTimers = s.periodTimers := rfl
@[simp] theorem State.setStack_slots (x : List InService) : (s.setStack x).slots = s.slots := rfl
@[simp] theorem State.setStack_routing (x : List InService) :
    (s.setStack x).routing = s.routing := rfl
@[simp] theorem State.setStack_stack (x : List InService) : (s.setStack x).stack = x := rfl
@[simp] theorem State.setStack_alertCounter (x : List InService) :
    (s.setStack x).alertCounter = s.alertCounter := rfl
@[simp] theorem State.setStack_lanes (x : List InService) : (s.setStack x).lanes = s.lanes := rfl
@[simp] theorem State.setStack_pairs (x : List InService) : (s.setStack x).pairs = s.pairs := rfl
@[simp] theorem State.setStack_link (x : List InService) : (s.setStack x).link = s.link := rfl
@[simp] theorem State.setStack_out (x : List InService) : (s.setStack x).out = s.out := rfl
@[simp] theorem State.setStack_mgmt (x : List InService) : (s.setStack x).mgmt = s.mgmt := rfl
@[simp] theorem State.setStack_cuts (x : List InService) : (s.setStack x).cuts = s.cuts := rfl

@[simp] theorem State.setMap_pending (m : MapStore) : (s.setMap m).pending = s.pending := rfl
@[simp] theorem State.setMap_inReset (m : MapStore) : (s.setMap m).inReset = s.inReset := rfl
@[simp] theorem State.setMap_deviceTime (m : MapStore) :
    (s.setMap m).deviceTime = s.deviceTime := rfl
@[simp] theorem State.setMap_trunkRate (m : MapStore) : (s.setMap m).trunkRate = s.trunkRate := rfl
@[simp] theorem State.setMap_map (m : MapStore) : (s.setMap m).map = m := rfl
@[simp] theorem State.setMap_records (m : MapStore) : (s.setMap m).records = s.records := rfl
@[simp] theorem State.setMap_servicePointer (m : MapStore) :
    (s.setMap m).servicePointer = s.servicePointer := rfl
@[simp] theorem State.setMap_periodTimers (m : MapStore) :
    (s.setMap m).periodTimers = s.periodTimers := rfl
@[simp] theorem State.setMap_slots (m : MapStore) : (s.setMap m).slots = s.slots := rfl
@[simp] theorem State.setMap_routing (m : MapStore) : (s.setMap m).routing = s.routing := rfl
@[simp] theorem State.setMap_stack (m : MapStore) : (s.setMap m).stack = s.stack := rfl
@[simp] theorem State.setMap_alertCounter (m : MapStore) :
    (s.setMap m).alertCounter = s.alertCounter := rfl
@[simp] theorem State.setMap_lanes (m : MapStore) : (s.setMap m).lanes = s.lanes := rfl
@[simp] theorem State.setMap_pairs (m : MapStore) : (s.setMap m).pairs = s.pairs := rfl
@[simp] theorem State.setMap_link (m : MapStore) : (s.setMap m).link = s.link := rfl
@[simp] theorem State.setMap_out (m : MapStore) : (s.setMap m).out = s.out := rfl
@[simp] theorem State.setMap_mgmt (m : MapStore) : (s.setMap m).mgmt = s.mgmt := rfl
@[simp] theorem State.setMap_cuts (m : MapStore) : (s.setMap m).cuts = s.cuts := rfl

@[simp] theorem State.setLink_pending (l : LinkControl) : (s.setLink l).pending = s.pending := rfl
@[simp] theorem State.setLink_inReset (l : LinkControl) : (s.setLink l).inReset = s.inReset := rfl
@[simp] theorem State.setLink_deviceTime (l : LinkControl) :
    (s.setLink l).deviceTime = s.deviceTime := rfl
@[simp] theorem State.setLink_trunkRate (l : LinkControl) :
    (s.setLink l).trunkRate = s.trunkRate := rfl
@[simp] theorem State.setLink_map (l : LinkControl) : (s.setLink l).map = s.map := rfl
@[simp] theorem State.setLink_records (l : LinkControl) : (s.setLink l).records = s.records := rfl
@[simp] theorem State.setLink_servicePointer (l : LinkControl) :
    (s.setLink l).servicePointer = s.servicePointer := rfl
@[simp] theorem State.setLink_periodTimers (l : LinkControl) :
    (s.setLink l).periodTimers = s.periodTimers := rfl
@[simp] theorem State.setLink_slots (l : LinkControl) : (s.setLink l).slots = s.slots := rfl
@[simp] theorem State.setLink_routing (l : LinkControl) : (s.setLink l).routing = s.routing := rfl
@[simp] theorem State.setLink_stack (l : LinkControl) : (s.setLink l).stack = s.stack := rfl
@[simp] theorem State.setLink_alertCounter (l : LinkControl) :
    (s.setLink l).alertCounter = s.alertCounter := rfl
@[simp] theorem State.setLink_lanes (l : LinkControl) : (s.setLink l).lanes = s.lanes := rfl
@[simp] theorem State.setLink_pairs (l : LinkControl) : (s.setLink l).pairs = s.pairs := rfl
@[simp] theorem State.setLink_link (l : LinkControl) : (s.setLink l).link = l := rfl
@[simp] theorem State.setLink_out (l : LinkControl) : (s.setLink l).out = s.out := rfl
@[simp] theorem State.setLink_mgmt (l : LinkControl) : (s.setLink l).mgmt = s.mgmt := rfl
@[simp] theorem State.setLink_cuts (l : LinkControl) : (s.setLink l).cuts = s.cuts := rfl

@[simp] theorem State.setOut_pending (o : Outbound) : (s.setOut o).pending = s.pending := rfl
@[simp] theorem State.setOut_inReset (o : Outbound) : (s.setOut o).inReset = s.inReset := rfl
@[simp] theorem State.setOut_deviceTime (o : Outbound) :
    (s.setOut o).deviceTime = s.deviceTime := rfl
@[simp] theorem State.setOut_trunkRate (o : Outbound) : (s.setOut o).trunkRate = s.trunkRate := rfl
@[simp] theorem State.setOut_map (o : Outbound) : (s.setOut o).map = s.map := rfl
@[simp] theorem State.setOut_records (o : Outbound) : (s.setOut o).records = s.records := rfl
@[simp] theorem State.setOut_servicePointer (o : Outbound) :
    (s.setOut o).servicePointer = s.servicePointer := rfl
@[simp] theorem State.setOut_periodTimers (o : Outbound) :
    (s.setOut o).periodTimers = s.periodTimers := rfl
@[simp] theorem State.setOut_slots (o : Outbound) : (s.setOut o).slots = s.slots := rfl
@[simp] theorem State.setOut_routing (o : Outbound) : (s.setOut o).routing = s.routing := rfl
@[simp] theorem State.setOut_stack (o : Outbound) : (s.setOut o).stack = s.stack := rfl
@[simp] theorem State.setOut_alertCounter (o : Outbound) :
    (s.setOut o).alertCounter = s.alertCounter := rfl
@[simp] theorem State.setOut_lanes (o : Outbound) : (s.setOut o).lanes = s.lanes := rfl
@[simp] theorem State.setOut_pairs (o : Outbound) : (s.setOut o).pairs = s.pairs := rfl
@[simp] theorem State.setOut_link (o : Outbound) : (s.setOut o).link = s.link := rfl
@[simp] theorem State.setOut_out (o : Outbound) : (s.setOut o).out = o := rfl
@[simp] theorem State.setOut_mgmt (o : Outbound) : (s.setOut o).mgmt = s.mgmt := rfl
@[simp] theorem State.setOut_cuts (o : Outbound) : (s.setOut o).cuts = s.cuts := rfl

@[simp] theorem State.setMgmt_pending (m : Management) : (s.setMgmt m).pending = s.pending := rfl
@[simp] theorem State.setMgmt_inReset (m : Management) : (s.setMgmt m).inReset = s.inReset := rfl
@[simp] theorem State.setMgmt_deviceTime (m : Management) :
    (s.setMgmt m).deviceTime = s.deviceTime := rfl
@[simp] theorem State.setMgmt_trunkRate (m : Management) :
    (s.setMgmt m).trunkRate = s.trunkRate := rfl
@[simp] theorem State.setMgmt_map (m : Management) : (s.setMgmt m).map = s.map := rfl
@[simp] theorem State.setMgmt_records (m : Management) : (s.setMgmt m).records = s.records := rfl
@[simp] theorem State.setMgmt_servicePointer (m : Management) :
    (s.setMgmt m).servicePointer = s.servicePointer := rfl
@[simp] theorem State.setMgmt_periodTimers (m : Management) :
    (s.setMgmt m).periodTimers = s.periodTimers := rfl
@[simp] theorem State.setMgmt_slots (m : Management) : (s.setMgmt m).slots = s.slots := rfl
@[simp] theorem State.setMgmt_routing (m : Management) : (s.setMgmt m).routing = s.routing := rfl
@[simp] theorem State.setMgmt_stack (m : Management) : (s.setMgmt m).stack = s.stack := rfl
@[simp] theorem State.setMgmt_alertCounter (m : Management) :
    (s.setMgmt m).alertCounter = s.alertCounter := rfl
@[simp] theorem State.setMgmt_lanes (m : Management) : (s.setMgmt m).lanes = s.lanes := rfl
@[simp] theorem State.setMgmt_pairs (m : Management) : (s.setMgmt m).pairs = s.pairs := rfl
@[simp] theorem State.setMgmt_link (m : Management) : (s.setMgmt m).link = s.link := rfl
@[simp] theorem State.setMgmt_out (m : Management) : (s.setMgmt m).out = s.out := rfl
@[simp] theorem State.setMgmt_mgmt (m : Management) : (s.setMgmt m).mgmt = m := rfl
@[simp] theorem State.setMgmt_cuts (m : Management) : (s.setMgmt m).cuts = s.cuts := rfl

@[simp] theorem placeAlert_pending (m : Message) : (placeAlert m s).pending = s.pending := rfl
@[simp] theorem placeAlert_inReset (m : Message) : (placeAlert m s).inReset = s.inReset := rfl
@[simp] theorem placeAlert_deviceTime (m : Message) :
    (placeAlert m s).deviceTime = s.deviceTime := rfl
@[simp] theorem placeAlert_trunkRate (m : Message) : (placeAlert m s).trunkRate = s.trunkRate := rfl
@[simp] theorem placeAlert_map (m : Message) : (placeAlert m s).map = s.map := rfl
@[simp] theorem placeAlert_records (m : Message) : (placeAlert m s).records = s.records := rfl
@[simp] theorem placeAlert_servicePointer (m : Message) :
    (placeAlert m s).servicePointer = s.servicePointer := rfl
@[simp] theorem placeAlert_periodTimers (m : Message) :
    (placeAlert m s).periodTimers = s.periodTimers := rfl
@[simp] theorem placeAlert_slots (m : Message) : (placeAlert m s).slots = s.slots := rfl
@[simp] theorem placeAlert_routing (m : Message) : (placeAlert m s).routing = s.routing := rfl
@[simp] theorem placeAlert_stack (m : Message) : (placeAlert m s).stack = s.stack := rfl
@[simp] theorem placeAlert_alertCounter (m : Message) :
    (placeAlert m s).alertCounter = s.alertCounter := rfl
@[simp] theorem placeAlert_lanes (m : Message) : (placeAlert m s).lanes = s.lanes := rfl
@[simp] theorem placeAlert_pairs (m : Message) : (placeAlert m s).pairs = s.pairs := rfl
@[simp] theorem placeAlert_link (m : Message) : (placeAlert m s).link = s.link := rfl
@[simp] theorem placeAlert_out (m : Message) :
    (placeAlert m s).out = { s.out with alertQ := s.out.alertQ ++ [m] } := rfl
@[simp] theorem placeAlert_mgmt (m : Message) : (placeAlert m s).mgmt = s.mgmt := rfl
@[simp] theorem placeAlert_cuts (m : Message) : (placeAlert m s).cuts = s.cuts := rfl

@[simp] theorem placeReply_pending (m : Message) : (placeReply m s).pending = s.pending := rfl
@[simp] theorem placeReply_inReset (m : Message) : (placeReply m s).inReset = s.inReset := rfl
@[simp] theorem placeReply_deviceTime (m : Message) :
    (placeReply m s).deviceTime = s.deviceTime := rfl
@[simp] theorem placeReply_trunkRate (m : Message) : (placeReply m s).trunkRate = s.trunkRate := rfl
@[simp] theorem placeReply_map (m : Message) : (placeReply m s).map = s.map := rfl
@[simp] theorem placeReply_records (m : Message) : (placeReply m s).records = s.records := rfl
@[simp] theorem placeReply_servicePointer (m : Message) :
    (placeReply m s).servicePointer = s.servicePointer := rfl
@[simp] theorem placeReply_periodTimers (m : Message) :
    (placeReply m s).periodTimers = s.periodTimers := rfl
@[simp] theorem placeReply_slots (m : Message) : (placeReply m s).slots = s.slots := rfl
@[simp] theorem placeReply_routing (m : Message) : (placeReply m s).routing = s.routing := rfl
@[simp] theorem placeReply_stack (m : Message) : (placeReply m s).stack = s.stack := rfl
@[simp] theorem placeReply_alertCounter (m : Message) :
    (placeReply m s).alertCounter = s.alertCounter := rfl
@[simp] theorem placeReply_lanes (m : Message) : (placeReply m s).lanes = s.lanes := rfl
@[simp] theorem placeReply_pairs (m : Message) : (placeReply m s).pairs = s.pairs := rfl
@[simp] theorem placeReply_link (m : Message) : (placeReply m s).link = s.link := rfl
@[simp] theorem placeReply_out (m : Message) :
    (placeReply m s).out = { s.out with replyQ := s.out.replyQ ++ [m] } := rfl
@[simp] theorem placeReply_mgmt (m : Message) : (placeReply m s).mgmt = s.mgmt := rfl
@[simp] theorem placeReply_cuts (m : Message) : (placeReply m s).cuts = s.cuts := rfl

@[simp] theorem placeData_pending (m : Message) : (placeData m s).pending = s.pending := rfl
@[simp] theorem placeData_inReset (m : Message) : (placeData m s).inReset = s.inReset := rfl
@[simp] theorem placeData_deviceTime (m : Message) :
    (placeData m s).deviceTime = s.deviceTime := rfl
@[simp] theorem placeData_trunkRate (m : Message) : (placeData m s).trunkRate = s.trunkRate := rfl
@[simp] theorem placeData_map (m : Message) : (placeData m s).map = s.map := rfl
@[simp] theorem placeData_records (m : Message) : (placeData m s).records = s.records := rfl
@[simp] theorem placeData_servicePointer (m : Message) :
    (placeData m s).servicePointer = s.servicePointer := rfl
@[simp] theorem placeData_periodTimers (m : Message) :
    (placeData m s).periodTimers = s.periodTimers := rfl
@[simp] theorem placeData_slots (m : Message) : (placeData m s).slots = s.slots := rfl
@[simp] theorem placeData_routing (m : Message) : (placeData m s).routing = s.routing := rfl
@[simp] theorem placeData_stack (m : Message) : (placeData m s).stack = s.stack := rfl
@[simp] theorem placeData_alertCounter (m : Message) :
    (placeData m s).alertCounter = s.alertCounter := rfl
@[simp] theorem placeData_lanes (m : Message) : (placeData m s).lanes = s.lanes := rfl
@[simp] theorem placeData_pairs (m : Message) : (placeData m s).pairs = s.pairs := rfl
@[simp] theorem placeData_link (m : Message) : (placeData m s).link = s.link := rfl
@[simp] theorem placeData_out (m : Message) :
    (placeData m s).out = { s.out with dataQ := s.out.dataQ ++ [m] } := rfl
@[simp] theorem placeData_mgmt (m : Message) : (placeData m s).mgmt = s.mgmt := rfl
@[simp] theorem placeData_cuts (m : Message) : (placeData m s).cuts = s.cuts := rfl

@[simp] theorem countAbsorbed_pending : (countAbsorbed s).pending = s.pending := rfl
@[simp] theorem countAbsorbed_inReset : (countAbsorbed s).inReset = s.inReset := rfl
@[simp] theorem countAbsorbed_deviceTime : (countAbsorbed s).deviceTime = s.deviceTime := rfl
@[simp] theorem countAbsorbed_trunkRate : (countAbsorbed s).trunkRate = s.trunkRate := rfl
@[simp] theorem countAbsorbed_map : (countAbsorbed s).map = s.map := rfl
@[simp] theorem countAbsorbed_records : (countAbsorbed s).records = s.records := rfl
@[simp] theorem countAbsorbed_servicePointer :
    (countAbsorbed s).servicePointer = s.servicePointer := rfl
@[simp] theorem countAbsorbed_periodTimers : (countAbsorbed s).periodTimers = s.periodTimers := rfl
@[simp] theorem countAbsorbed_slots : (countAbsorbed s).slots = s.slots := rfl
@[simp] theorem countAbsorbed_routing : (countAbsorbed s).routing = s.routing := rfl
@[simp] theorem countAbsorbed_stack : (countAbsorbed s).stack = s.stack := rfl
@[simp] theorem countAbsorbed_alertCounter : (countAbsorbed s).alertCounter = s.alertCounter := rfl
@[simp] theorem countAbsorbed_lanes : (countAbsorbed s).lanes = s.lanes := rfl
@[simp] theorem countAbsorbed_pairs : (countAbsorbed s).pairs = s.pairs := rfl
@[simp] theorem countAbsorbed_link : (countAbsorbed s).link = s.link := rfl
@[simp] theorem countAbsorbed_out :
    (countAbsorbed s).out = { s.out with absorbed := s.out.absorbed + 1 } := rfl
@[simp] theorem countAbsorbed_mgmt : (countAbsorbed s).mgmt = s.mgmt := rfl
@[simp] theorem countAbsorbed_cuts : (countAbsorbed s).cuts = s.cuts := rfl

@[simp] theorem countLoss_pending : (countLoss s).pending = s.pending := rfl
@[simp] theorem countLoss_inReset : (countLoss s).inReset = s.inReset := rfl
@[simp] theorem countLoss_deviceTime : (countLoss s).deviceTime = s.deviceTime := rfl
@[simp] theorem countLoss_trunkRate : (countLoss s).trunkRate = s.trunkRate := rfl
@[simp] theorem countLoss_map : (countLoss s).map = s.map := rfl
@[simp] theorem countLoss_records : (countLoss s).records = s.records := rfl
@[simp] theorem countLoss_servicePointer : (countLoss s).servicePointer = s.servicePointer := rfl
@[simp] theorem countLoss_periodTimers : (countLoss s).periodTimers = s.periodTimers := rfl
@[simp] theorem countLoss_slots : (countLoss s).slots = s.slots := rfl
@[simp] theorem countLoss_routing : (countLoss s).routing = s.routing := rfl
@[simp] theorem countLoss_stack : (countLoss s).stack = s.stack := rfl
@[simp] theorem countLoss_alertCounter : (countLoss s).alertCounter = s.alertCounter := rfl
@[simp] theorem countLoss_lanes : (countLoss s).lanes = s.lanes := rfl
@[simp] theorem countLoss_pairs : (countLoss s).pairs = s.pairs := rfl
@[simp] theorem countLoss_link : (countLoss s).link = s.link := rfl
@[simp] theorem countLoss_out : (countLoss s).out = { s.out with loss := s.out.loss + 1 } := rfl
@[simp] theorem countLoss_mgmt : (countLoss s).mgmt = s.mgmt := rfl
@[simp] theorem countLoss_cuts : (countLoss s).cuts = s.cuts := rfl

end Sys2Proof.Machine
end

