-- ==== Sys2Proof/Laws/Table.lean ====
section
/-! SUPPORT. What the table operations do: each row of a rewritten table, and which rows a listing holds. -/

namespace Sys2Proof.Machine

variable {α β : Type} {n : Nat}

@[simp] theorem rowSet_self (v : Vector α n) (i : Fin n) (x : α) : (rowSet v i x)[i] = x := by
  simp [rowSet]

theorem rowSet_other (v : Vector α n) {i j : Fin n} (x : α) (h : j ≠ i) :
    (rowSet v i x)[j] = v[j] := by
  have : i.val ≠ j.val := fun e => h (Fin.ext e.symm)
  simp [rowSet, Vector.getElem_set_ne, this]

theorem rowSet_apply (v : Vector α n) (i j : Fin n) (x : α) :
    (rowSet v i x)[j] = if j = i then x else v[j] := by
  by_cases h : j = i
  · subst h; rw [if_pos rfl]; exact rowSet_self v j x
  · rw [rowSet_other v x h, if_neg h]

/-- Writing back the row that is there changes nothing. -/
@[simp] theorem rowSet_eta (v : Vector α n) (i : Fin n) : rowSet v i v[i] = v := by
  simp [rowSet]

@[simp] theorem rowSet_twice (v : Vector α n) (i : Fin n) (x y : α) :
    rowSet (rowSet v i x) i y = rowSet v i y := by
  apply Vector.ext
  intro j hj
  simp only [rowSet, Vector.getElem_set]
  split <;> rfl

theorem allFin_getElem (k : Nat) (h : k < (allFin n).length) :
    (allFin n)[k] = ⟨k, by simpa using h⟩ := by
  simp [allFin]

theorem mem_allFin (i : Fin n) : i ∈ allFin n := by
  simp only [allFin, List.mem_pmap, List.mem_range]
  exact ⟨i.val, i.isLt, rfl⟩

@[simp] theorem rowsMap_apply (f : Fin n → α → β) (v : Vector α n) (i : Fin n) :
    (rowsMap f v)[i] = f i v[i] := by
  show (List.zipWith f (allFin n) v.toList).toArray[i.val]'(by simp) = _
  simp [List.getElem_zipWith, allFin_getElem]

/-- A row of a table with one row replaced, by its number. -/
@[simp] theorem rowSet_getElem (v : Vector α n) (i : Fin n) (x : α) (k : Nat) (h : k < n) :
    (rowSet v i x)[k] = if i.val = k then x else v[k] := by
  simp only [rowSet, Vector.getElem_set]

/-- A row of a table with every row rewritten, by its number. -/
@[simp] theorem rowsMap_getElem (f : Fin n → α → β) (v : Vector α n) (k : Nat) (h : k < n) :
    (rowsMap f v)[k] = f ⟨k, h⟩ v[k] :=
  rowsMap_apply f v ⟨k, h⟩

/-- A listing holds exactly the rows of the table. -/
theorem mem_rows (v : Vector α n) (i : Fin n) (x : α) : (i, x) ∈ rows v ↔ v[i] = x := by
  simp only [rows, List.mem_iff_getElem, List.length_zip, allFin_length, Vector.length_toList,
    Nat.min_self, List.getElem_zip, Prod.mk.injEq, allFin_getElem]
  constructor
  · rintro ⟨k, hk, rfl, rfl⟩
    simp
  · rintro rfl
    exact ⟨i.val, i.isLt, rfl, by simp⟩

/-- A listing is in ascending order of the index. -/
theorem rows_ascending (v : Vector α n) : (rows v).Pairwise fun a b => a.1 < b.1 := by
  rw [List.pairwise_iff_getElem]
  intro i j hi hj h
  simpa [rows, allFin_getElem] using h

theorem allFin_ascending (n : Nat) : (allFin n).Pairwise (· < ·) := by
  rw [List.pairwise_iff_getElem]
  intro i j hi hj h
  simpa [allFin_getElem] using h

end Sys2Proof.Machine
end

