-- ==== Sys2Proof/Laws/Ops.lean ====
section
/-! SUPPORT. What each shared operation can do, said once: its cases and the fields it can change. -/

namespace Sys2Proof.Machine

variable (s : State)

/-! ## Events -/

theorem running_held (event : State → State) (h : s.inReset = true) : running event s = .next s := by
  simp [running, h]

theorem running_released (event : State → State) (h : s.inReset = false) :
    running event s = .next (event s) := by
  simp [running, h]

/-! ## Slots and the wake demand (R50, R52, R69, R87) -/

/-- A raise keeps, appends or overflows (R52). -/
theorem Slot.raise_cases (sl : Slot) (c : Cause) :
    (c ∈ sl.causes ∧ sl.raise c = sl) ∨
    (c ∉ sl.causes ∧ sl.causes.length < 8 ∧ sl.raise c = { sl with causes := sl.causes ++ [c] }) ∨
    (c ∉ sl.causes ∧ 8 ≤ sl.causes.length ∧ sl.raise c = { sl with overflow := true }) := by
  by_cases member : c ∈ sl.causes
  · exact .inl ⟨member, by simp [Slot.raise, member]⟩
  · by_cases room : sl.causes.length < 8
    · exact .inr (.inl ⟨member, room, by simp [Slot.raise, member, Config.causeCapacity, room]⟩)
    · exact .inr (.inr ⟨member, Nat.le_of_not_lt room,
        by simp [Slot.raise, member, Config.causeCapacity, room]⟩)

@[simp] theorem Slot.raise_level (sl : Slot) (c : Cause) : (sl.raise c).level = sl.level := by
  rcases sl.raise_cases c with ⟨_, h⟩ | ⟨_, _, h⟩ | ⟨_, _, h⟩ <;> rw [h]

@[simp] theorem Slot.raise_mask (sl : Slot) (c : Cause) : (sl.raise c).mask = sl.mask := by
  rcases sl.raise_cases c with ⟨_, h⟩ | ⟨_, _, h⟩ | ⟨_, _, h⟩ <;> rw [h]

/-- A raise keeps a cause set legal (R50, R52). -/
theorem Slot.raise_legal {sl : Slot} (c : Cause) (h : sl.legal) : (sl.raise c).legal := by
  obtain ⟨short, distinct⟩ := h
  rcases sl.raise_cases c with ⟨_, e⟩ | ⟨new, room, e⟩ | ⟨_, _, e⟩ <;> rw [e]
  · exact ⟨short, distinct⟩
  · exact ⟨by simp only [List.length_append, List.length_singleton, Config.causeCapacity]; omega,
      List.nodup_append.mpr ⟨distinct, by simp, by
        intro a ha b hb; rw [List.mem_singleton] at hb; subst hb; rintro rfl; exact new ha⟩⟩
  · exact ⟨short, distinct⟩

/-- A slot is selectable as the manual words it exactly when the model's test says so (R69). -/
theorem slotSelectable_iff (k : SlotId) : slotSelectable s.stack k s.slots[k] = true ↔ s.selectable k := by
  simp only [slotSelectable, Slot.pending, State.selectable, recordOfSlot, Bool.and_eq_true,
    Bool.or_eq_true, Bool.not_eq_true', List.isEmpty_eq_false_iff, beq_iff_eq, decide_eq_true_eq,
    Option.isNone_iff_eq_none, List.find?_eq_none, and_assoc, ne_eq]

/-- The search for a slot at one level finds the lowest selectable slot of that level. -/
theorem bestAt_some {level : Nat} {k : SlotId}
    (h : ((rows s.slots).findSome? fun row =>
      if slotSelectable s.stack row.1 row.2 && row.2.level.val == level then some row.1 else none) =
        some k) :
    s.selectable k ∧ s.slots[k].level.val = level ∧
      ∀ j, s.selectable j → s.slots[j].level.val = level → k ≤ j := by
  obtain ⟨before, row, after, split, found, none⟩ := List.findSome?_eq_some_iff.mp h
  have ordered := rows_ascending s.slots
  rw [split] at ordered
  split at found
  · rename_i ok
    cases found
    have here : s.slots[row.1] = row.2 := (mem_rows _ _ _).mp (by rw [split]; simp)
    rw [Bool.and_eq_true, beq_iff_eq, ← here, slotSelectable_iff] at ok
    refine ⟨ok.1, ok.2, fun j hj lj => ?_⟩
    have member : (j, s.slots[j]) ∈ before ++ row :: after := by
      rw [← split]; exact (mem_rows _ _ _).mpr rfl
    rcases List.mem_append.mp member with hb | hb
    · have := none _ hb
      rw [← slotSelectable_iff] at hj
      simp at this
      exact absurd lj (this hj)
    · rcases List.mem_cons.mp hb with hb | hb
      · exact (congrArg (fun x => x.1) hb).ge
      · have := (List.pairwise_append.mp ordered).2.1
        exact (List.rel_of_pairwise_cons this hb).le
  · cases found

theorem bestAt_none {level : Nat}
    (h : ((rows s.slots).findSome? fun row =>
      if slotSelectable s.stack row.1 row.2 && row.2.level.val == level then some row.1 else none) =
        none) (j : SlotId) (hj : s.selectable j) : s.slots[j].level.val ≠ level := by
  have := List.findSome?_eq_none_iff.mp h _ ((mem_rows _ j _).mpr rfl)
  rw [← slotSelectable_iff] at hj
  intro lj
  simp at this
  exact this hj lj

/-- The chosen slot is selectable, and no selectable slot comes before it in level, then number (R69). -/
theorem bestSlot_found {k : SlotId} (h : bestSlot s.stack s.slots = some k) :
    s.selectable k ∧ ∀ j, s.selectable j →
      s.slots[k].level < s.slots[j].level ∨ (s.slots[k].level = s.slots[j].level ∧ k ≤ j) := by
  obtain ⟨before, level, after, split, found, none⟩ := List.findSome?_eq_some_iff.mp h
  obtain ⟨here, at_level, lowest⟩ := bestAt_some s found
  refine ⟨here, fun j hj => ?_⟩
  have ordered : ([0, 1, 2, 3] : List Nat).Pairwise (· < ·) := by decide
  have all : s.slots[j].level.val ∈ ([0, 1, 2, 3] : List Nat) := by
    have := s.slots[j].level.isLt
    simp only [List.mem_cons, List.not_mem_nil, or_false]
    omega
  rw [split] at ordered all
  rcases List.mem_append.mp all with hb | hb
  · exact absurd rfl (bestAt_none s (none _ hb) j hj)
  · rcases List.mem_cons.mp hb with hb | hb
    · exact .inr ⟨Fin.ext (by omega), lowest j hj hb⟩
    · have := List.rel_of_pairwise_cons (List.pairwise_append.mp ordered).2.1 hb
      exact .inl (by rw [Fin.lt_def]; omega)

/-- No slot is chosen exactly when none is selectable (R69, R87). -/
theorem bestSlot_none : bestSlot s.stack s.slots = none ↔ ∀ j, ¬s.selectable j := by
  constructor
  · intro h j hj
    have all : s.slots[j].level.val ∈ ([0, 1, 2, 3] : List Nat) := by
      have := s.slots[j].level.isLt
      simp only [List.mem_cons, List.not_mem_nil, or_false]
      omega
    exact bestAt_none s (List.findSome?_eq_none_iff.mp h _ all) j hj rfl
  · intro h
    cases found : bestSlot s.stack s.slots with
    | none => rfl
    | some k => exact absurd (bestSlot_found s found).1 (h k)

/-- The choice is the least selectable slot by level, then number (R69). -/
theorem bestSlot_some (k : SlotId) : bestSlot s.stack s.slots = some k ↔
    s.selectable k ∧ ∀ j, s.selectable j →
      s.slots[k].level < s.slots[j].level ∨ (s.slots[k].level = s.slots[j].level ∧ k ≤ j) := by
  refine ⟨bestSlot_found s, fun ⟨hk, least⟩ => ?_⟩
  cases found : bestSlot s.stack s.slots with
  | none => exact absurd hk ((bestSlot_none s).mp found k)
  | some j =>
    obtain ⟨hj, best⟩ := bestSlot_found s found
    have one := least j hj
    have other := best k hk
    congr 1
    rw [Fin.lt_def, Fin.ext_iff, Fin.le_def] at one other
    exact Fin.ext (by omega)

theorem wakeDemand_iff : s.wakeDemand = true ↔ ∃ k, s.selectable k := by
  rw [State.wakeDemand, Option.isSome_iff_ne_none, ne_eq, bestSlot_none]
  simp

/-! ## Raises (R52, R56, R165, R167) -/

/-- A wake check changes the link's state, wake count and wake timer, and the WAKE in transmission or on
offer, and only in DORMANT with a slot selectable. -/
theorem wakeCheck_frame : ∃ (link : LinkControl) (out : Outbound),
    wakeCheck s = { s with link := link, out := out } ∧
    (s.link.state ≠ .dormant ∨ (∀ k, ¬s.selectable k) → link = s.link ∧ out = s.out) ∧
    (∀ k, s.link.state = .dormant → s.selectable k →
      link = { s.link with state := .waking, wakeCount := 1, wakeTimer := wakeTimerStart s } ∧
      (∃ m, m = .wake ⟨1, s.bestPendingLevel, s.deviceTime⟩ ∧
        out = match s.out.sending with
          | none => { s.out with sending := some m }
          | some _ => { s.out with wakeOffer := some m })) := by
  by_cases h : s.link.state = .dormant ∧ s.wakeDemand = true
  · refine ⟨_, _, by rw [wakeCheck, if_pos h]; rfl, ?_, ?_⟩
    · rintro (g | g)
      · exact absurd h.1 g
      · obtain ⟨k, hk⟩ := (wakeDemand_iff s).mp h.2
        exact absurd hk (g k)
    · exact fun k _ _ => ⟨rfl, _, rfl, rfl⟩
  · refine ⟨s.link, s.out, by rw [wakeCheck, if_neg h], fun _ => ⟨rfl, rfl⟩, fun k d hk => ?_⟩
    exact absurd ⟨d, (wakeDemand_iff s).mpr ⟨k, hk⟩⟩ h

theorem wakeCheck_awake (h : s.link.state ≠ .dormant) : wakeCheck s = s := by
  rw [wakeCheck, if_neg (fun g => h g.1)]

/-- A raise rewrites one slot, or none, and may wake a DORMANT link. -/
theorem raiseInto_some (k : SlotId) (c : Cause) :
    raiseInto (some k) c s = wakeCheck (s.setSlot k (s.slots[k].raise c)) := rfl

@[simp] theorem raiseInto_none (c : Cause) : raiseInto none c s = s := rfl

/-- The fields a raise can change: the slots, each by raises alone, the link, and the outbound side. -/
theorem raiseInto_frame (slot : Option SlotId) (c : Cause) :
    ∃ (slots : Vector Slot 32) (link : LinkControl) (out : Outbound),
      raiseInto slot c s = { s with slots := slots, link := link, out := out } ∧
      (∀ k : SlotId, slots[k] = if slot = some k then s.slots[k].raise c else s.slots[k]) ∧
      link = { s.link with state := link.state, wakeCount := link.wakeCount, wakeTimer := link.wakeTimer } ∧
      out = { s.out with sending := out.sending, wakeOffer := out.wakeOffer } ∧
      (s.link.state ≠ .dormant → link = s.link ∧ out = s.out) := by
  cases slot with
  | none => exact ⟨s.slots, s.link, s.out, rfl, by simp, rfl, rfl, fun _ => ⟨rfl, rfl⟩⟩
  | some k =>
    refine ⟨rowSet s.slots k (s.slots[k].raise c), (raiseInto (some k) c s).link,
      (raiseInto (some k) c s).out, ?_, ?_, ?_, ?_, ?_⟩
    · obtain ⟨link, out, h, -⟩ := wakeCheck_frame (s.setSlot k (s.slots[k].raise c))
      rw [raiseInto_some, h]; rfl
    · intro j
      rw [rowSet_apply]
      by_cases h : j = k
      · subst h; simp
      · rw [if_neg h, if_neg (fun e => h (Option.some.inj e).symm)]
    · rw [raiseInto_some, wakeCheck]; split <;> rfl
    · rw [raiseInto_some, wakeCheck]; split
      · simp only [enterWaking, offerWake]; split <;> rfl
      · rfl
    · intro h
      rw [raiseInto_some, wakeCheck_awake (s.setSlot k _) h]
      exact ⟨rfl, rfl⟩

/-- A raise while the link is not DORMANT changes the slots alone. -/
theorem raiseInto_awake (slot : Option SlotId) (c : Cause) (h : s.link.state ≠ .dormant) :
    ∃ slots : Vector Slot 32, raiseInto slot c s = { s with slots := slots } ∧
      ∀ k : SlotId, slots[k] = if slot = some k then s.slots[k].raise c else s.slots[k] := by
  obtain ⟨slots, link, out, e, raised, -, -, same⟩ := raiseInto_frame s slot c
  obtain ⟨rfl, rfl⟩ := same h
  exact ⟨slots, e, raised⟩

end Sys2Proof.Machine
end

