-- ==== Sys2Proof/Laws/Effects.lean ====
section
/-! SUPPORT. What the larger shared operations do: offers to the Data queue, integrity marks, relay frames,
the end of a long map operation, and teardown. -/

namespace Sys2Proof.Machine

variable (s : State)

/-! ## Offers and device raises -/

/-- The fields a device cause's raise can change. -/
theorem raiseDevice_frame (d : DeviceCause) :
    ∃ (slots : Vector Slot 32) (link : LinkControl) (out : Outbound),
      raiseDevice d s = { s with slots := slots, link := link, out := out } ∧
      (∀ k : SlotId, slots[k] =
        if s.routing[d.code] = some k then s.slots[k].raise (.device d) else s.slots[k]) ∧
      link = { s.link with state := link.state, wakeCount := link.wakeCount, wakeTimer := link.wakeTimer } ∧
      out = { s.out with sending := out.sending, wakeOffer := out.wakeOffer } ∧
      (s.link.state ≠ .dormant → link = s.link ∧ out = s.out) :=
  raiseInto_frame s s.routing[d.code] (.device d)

/-- An offer is absorbed, placed, or lost (R44, R113, R173). -/
theorem offerData_cases (m : Message) :
    (s.link.state ≠ .active ∧ offerData m s = countAbsorbed s) ∨
    (s.link.state = .active ∧ s.out.dataQ.length < 32 ∧ offerData m s = placeData m s) ∨
    (s.link.state = .active ∧ 32 ≤ s.out.dataQ.length ∧
      offerData m s = raiseDevice .dataLoss (countLoss s)) := by
  by_cases active : s.link.state = .active
  · by_cases room : s.out.dataQ.length < 32
    · exact .inr (.inl ⟨active, room, by simp [offerData, active, Config.dataCapacity, room]⟩)
    · exact .inr (.inr ⟨active, Nat.le_of_not_lt room,
        by simp [offerData, active, Config.dataCapacity, room]⟩)
  · exact .inl ⟨active, by simp [offerData, active]⟩

/-- The fields an offer can change: the slots by a raise of DATA_LOSS, and the Data queue and its two
counters. -/
theorem offerData_frame (m : Message) : ∃ (slots : Vector Slot 32) (out : Outbound),
    offerData m s = { s with slots := slots, out := out } ∧
    (∀ k : SlotId, slots[k] = s.slots[k] ∨ slots[k] = s.slots[k].raise (.device .dataLoss)) ∧
    out = { s.out with dataQ := out.dataQ, loss := out.loss, absorbed := out.absorbed } ∧
    (s.link.state ≠ .active → out.dataQ = s.out.dataQ) ∧
    (out.dataQ = s.out.dataQ ∨ s.out.dataQ.length < 32 ∧ out.dataQ = s.out.dataQ ++ [m]) := by
  rcases offerData_cases s m with ⟨h, e⟩ | ⟨h, r, e⟩ | ⟨h, r, e⟩
  · exact ⟨s.slots, _, e, fun _ => .inl rfl, rfl, fun _ => rfl, .inl rfl⟩
  · exact ⟨s.slots, _, e, fun _ => .inl rfl, rfl, fun g => absurd h g, .inr ⟨r, rfl⟩⟩
  · obtain ⟨slots, link, out, f, raised, -, -, same⟩ := raiseDevice_frame (countLoss s) .dataLoss
    obtain ⟨rfl, rfl⟩ := same (by rw [countLoss_link, h]; decide)
    refine ⟨slots, (countLoss s).out, by rw [e, f]; rfl, fun k => ?_, rfl, fun _ => rfl, .inl rfl⟩
    rw [raised k]
    split
    · exact .inr rfl
    · exact .inl rfl

/-! ## Integrity marks (R14, R16) -/

/-- A point entry found disagreeing: its mark, its record, and a raise of MAP_INTEGRITY (R14). -/
theorem faultPoint_eq (p : PointId) : faultPoint p s =
    raiseDevice .mapIntegrity
      { s with
        map := s.map.setActiveBank
          (s.map.activeBank.setPoint p { s.activePoint p with mark := true })
        records := rowSet s.records p
          { s.records[p] with condition := .unknown, vote := 0, timer := none } } := rfl

/-- A group entry found disagreeing: its mark, its timer, and a raise of MAP_INTEGRITY (R16). -/
theorem faultGroup_eq (g : GroupId) : faultGroup g s =
    raiseDevice .mapIntegrity
      { s with
        map := s.map.setActiveBank
          (s.map.activeBank.setGroup g { s.activeGroup g with mark := true })
        periodTimers := rowSet s.periodTimers g none } := rfl

/-! ## Banks -/

@[simp] theorem MapStore.setActiveBank_activeBank (m : MapStore) (b : Bank) :
    (m.setActiveBank b).activeBank = b := by
  cases h : m.active <;> simp [MapStore.setActiveBank, MapStore.setBank, MapStore.activeBank, h,
    MapStore.bank]

@[simp] theorem MapStore.setActiveBank_shadowBank (m : MapStore) (b : Bank) :
    (m.setActiveBank b).shadowBank = m.shadowBank := by
  cases h : m.active <;> simp [MapStore.setActiveBank, MapStore.setBank, MapStore.shadowBank, h,
    MapStore.bank, BankName.other]

@[simp] theorem MapStore.setShadowBank_activeBank (m : MapStore) (b : Bank) :
    (m.setShadowBank b).activeBank = m.activeBank := by
  cases h : m.active <;> simp [MapStore.setShadowBank, MapStore.setBank, MapStore.activeBank, h,
    MapStore.bank, BankName.other]

@[simp] theorem MapStore.setShadowBank_shadowBank (m : MapStore) (b : Bank) :
    (m.setShadowBank b).shadowBank = b := by
  cases h : m.active <;> simp [MapStore.setShadowBank, MapStore.setBank, MapStore.shadowBank, h,
    MapStore.bank, BankName.other]

/-- Replacing the active bank keeps the designation, the key indexes and the generation. -/
theorem MapStore.setActiveBank_frame (m : MapStore) (b : Bank) :
    (m.setActiveBank b).active = m.active ∧ (m.setActiveBank b).keyIndex = m.keyIndex ∧
      (m.setActiveBank b).generation = m.generation ∧
      (m.setActiveBank b).partialIndex = m.partialIndex := by
  cases h : m.active <;> simp [MapStore.setActiveBank, MapStore.setBank, h]

/-- Replacing the shadow bank keeps the designation, the key indexes and the generation. -/
theorem MapStore.setShadowBank_frame (m : MapStore) (b : Bank) :
    (m.setShadowBank b).active = m.active ∧ (m.setShadowBank b).keyIndex = m.keyIndex ∧
      (m.setShadowBank b).generation = m.generation ∧
      (m.setShadowBank b).partialIndex = m.partialIndex := by
  cases h : m.active <;> simp [MapStore.setShadowBank, MapStore.setBank, h, BankName.other]

/-! ## Relay frames (R144, R145) -/

/-- A relay outcome places the frame's RELAY_DONE, or counts it absorbed, or does nothing (R145). -/
theorem relayOutcome_eq (k : PairId) (outcome : RelayOutcome) (f : RelayFrame) :
    relayOutcome k outcome f s =
      { s with
        out :=
          { s.out with
            replyQ := s.out.replyQ ++ doneMessages k outcome f
            absorbed := s.out.absorbed +
              BitVec.ofNat 32 (if f.confirm = some .cancelled then 1 else 0) } } := by
  obtain ⟨tag, node, payload, confirm⟩ := f
  rcases confirm with _ | _ | _
  · simp [relayOutcome, doneMessages]
  · simp [relayOutcome, doneMessages, placeReply]
  · simp [relayOutcome, doneMessages, countAbsorbed]

/-- The outcomes of frames removed together (R144, R145). -/
theorem relayOutcomes_eq (k : PairId) (outcome : RelayOutcome) (fs : List RelayFrame) :
    relayOutcomes k outcome fs s =
      { s with
        out :=
          { s.out with
            replyQ := s.out.replyQ ++ fs.flatMap (doneMessages k outcome)
            absorbed := s.out.absorbed +
              BitVec.ofNat 32 (fs.countP (fun f => f.confirm == some .cancelled)) } } := by
  induction fs generalizing s with
  | nil => simp [relayOutcomes]
  | cons f fs ih =>
    show relayOutcomes k outcome fs (relayOutcome k outcome f s) = _
    rw [ih, relayOutcome_eq]
    simp only [List.flatMap_cons, List.append_assoc, List.countP_cons, BitVec.add_assoc]
    congr 2
    rw [← BitVec.ofNat_add, Nat.add_comm]
    simp only [beq_iff_eq]

/-- The disposal of a pair's relay frames: ABANDONED, then DISCARDED, oldest first (R144). -/
theorem disposeRelay_eq (k : PairId) :
    disposeRelay k s =
      { s with
        pairs := rowSet s.pairs k { s.pairs[k] with relay := RelayTransmitter.reset }
        out :=
          { s.out with
            replyQ :=
              s.out.replyQ ++ s.pairs[k].relay.sending.toList.flatMap (doneMessages k .abandoned) ++
                s.pairs[k].relay.queue.flatMap (doneMessages k .discarded)
            absorbed := s.out.absorbed +
              BitVec.ofNat 32
                (s.pairs[k].relay.frames.countP (fun f => f.confirm == some .cancelled)) }
        cuts := s.cutRelay k } := by
  simp only [disposeRelay, relayOutcomes_eq, State.setPair, RelayTransmitter.frames, List.countP_append,
    BitVec.ofNat_add, BitVec.add_assoc]

/-! ## Transmissions cut short (R144, R180, R204) -/

/-- A cut leaves one character of the transmission to finish, within the time of one character. -/
theorem cutShort_finishes (number line : Nat) (now : Time) {bitsPerSecond : Nat} {chars : List Byte}
    (some_character : chars ≠ []) :
    (cutShort number line now bitsPerSecond chars).finishes now bitsPerSecond chars := by
  have inside : Config.cutPosition number line % chars.length < chars.length :=
    Nat.mod_lt _ (List.length_pos_iff.mpr some_character)
  have short : 10000 / bitsPerSecond ≤ 10000 := Nat.div_le_self _ _
  have left : Config.cutMilliseconds number line % (Config.characterMilliseconds bitsPerSecond + 1) <
      Config.characterMilliseconds bitsPerSecond + 1 := Nat.mod_lt _ (Nat.succ_pos _)
  simp only [Config.characterMilliseconds] at left
  refine ⟨?_, rfl, ?_⟩
  · simp only [cutShort, List.getD_eq_getElem _ _ inside, List.getElem_mem]
  · simp only [cutShort, startTimer, Config.characterMilliseconds, BitVec.toNat_ofNat]
    omega

/-- A teardown cuts the trunk's transmission short as the statements say (R180). -/
theorem cutTrunk_to : s.trunkCutTo s.cutTrunk := by
  refine ⟨rfl, fun idle => by simp [State.cutTrunk, State.trunkCut, idle], fun m sending => ?_⟩
  exact ⟨_, by simp only [State.cutTrunk, State.trunkCut, sending, Option.map_some, Option.some_or],
    cutShort_finishes s.cuts.number 4 s.deviceTime (by simp [Message.chars])⟩

/-- A disposal cuts the pair's transmission short as the statements say, and leaves the other lines (R144). -/
theorem cutRelay_to (k : PairId) : s.relayCutTo k (s.cutRelay k) ∧
    (s.cutRelay k).trunk = s.cuts.trunk ∧
    ∀ j : PairId, j ≠ k → (s.cutRelay k).relays[j] = s.cuts.relays[j] := by
  refine ⟨⟨fun idle => ?_, fun f sending => ⟨_, ?_,
    cutShort_finishes s.cuts.number k.val s.deviceTime (by simp [RelayFrame.chars])⟩⟩, rfl, fun j other => ?_⟩
  · simp only [State.cutRelay, State.relayCut, idle, Option.map_none, Option.none_or, rowSet_self]
  · simp only [State.cutRelay, State.relayCut, sending, Option.map_some, Option.some_or, rowSet_self]
  · simp only [State.cutRelay, rowSet_apply, if_neg other]

/-- The warm restart cuts every pair's transmission short as the statements say (R148). -/
theorem relaysCut_to (k : PairId) : s.relayCutTo k s.relaysCut := by
  refine ⟨fun idle => ?_, fun f sending => ⟨_, ?_,
    cutShort_finishes s.cuts.number k.val s.deviceTime (by simp [RelayFrame.chars])⟩⟩
  · simp only [State.relaysCut, State.relayCut, idle, Option.map_none, Option.none_or, rowsMap_apply]
  · simp only [State.relaysCut, State.relayCut, rowsMap_apply, sending, Option.map_some, Option.some_or]

/-- A line goes on finishing its character exactly while the character's time runs (R204). -/
theorem stillCut_some (now : Time) (line : Option CutCharacter) (c : CutCharacter) :
    stillCut now line = some c ↔ line = some c ∧ timerDue now (some c.timer) = false := by
  simp [stillCut, Option.filter_eq_some_iff]

/-! ## Long map operations (R95, R97, R190) -/

/-- The end of a long map operation is the one the statements speak of (R95, R97, R190). -/
theorem endLongOp_eq (status : Status) (results : List Byte) :
    endLongOp status results s =
      longOpEnded ⟨s.mgmt.tracker.tag, s.mgmt.tracker.operation.requestCode, status, results⟩ s := by
  cases h : s.mgmt.tracker.replyOwed <;>
    simp [endLongOp, longOpEnded, h, placeReply, Tracker.idle, CacheEntry.finish]

/-! ## Teardown (R59, R85, R146, R160, R180) -/

/-- What a merge-back leaves in a slot: the causes of its records raised in turn, bottom first, and their
overflow (R59, R85). -/
theorem mergeBack_apply (slots : Vector Slot 32) (stack : List InService) (k : SlotId) :
    (mergeBack slots stack)[k] =
      (stack.filter (fun r => r.slot == k)).foldl
        (fun sl r =>
          { r.causes.foldl Slot.raise sl with
            overflow := (r.causes.foldl Slot.raise sl).overflow || r.overflow })
        slots[k] := by
  induction stack generalizing slots with
  | nil => rfl
  | cons r stack ih =>
    show (mergeBack (mergeRecord slots r) stack)[k] = _
    rw [ih, mergeRecord, rowSet_apply]
    by_cases h : r.slot = k
    · subst h; simp
    · rw [if_neg (fun e => h e.symm), List.filter_cons_of_neg (by simpa using h)]

/-- A cause fold keeps level and mask. -/
theorem foldl_raise_keeps (causes : List Cause) (sl : Slot) :
    (causes.foldl Slot.raise sl).level = sl.level ∧ (causes.foldl Slot.raise sl).mask = sl.mask := by
  induction causes generalizing sl with
  | nil => exact ⟨rfl, rfl⟩
  | cons c causes ih => simpa using ih (sl.raise c)

/-- Raises in turn keep a cause set legal. -/
theorem foldl_raise_legal (causes : List Cause) {sl : Slot} (h : sl.legal) :
    (causes.foldl Slot.raise sl).legal := by
  induction causes generalizing sl with
  | nil => exact h
  | cons c causes ih => exact ih (Slot.raise_legal c h)

/-- A merge-back keeps every cause set legal (R59). -/
theorem mergeBack_legal {slots : Vector Slot 32} (stack : List InService)
    (h : ∀ k : SlotId, slots[k].legal) (k : SlotId) : (mergeBack slots stack)[k].legal := by
  induction stack generalizing slots with
  | nil => exact h k
  | cons r stack ih =>
    refine ih fun j => ?_
    rw [mergeRecord, rowSet_apply]
    split
    · exact foldl_raise_legal r.causes (h r.slot)
    · exact h j

/-- A torn down relay frame is CANCELLED if it asked for confirmation (R146). -/
theorem RelayFrame.cancel_eq (f : RelayFrame) :
    f.cancel = { f with confirm := if f.confirm = none then none else some .cancelled } := by
  obtain ⟨tag, node, payload, confirm⟩ := f
  rcases confirm with _ | _ | _ <;> rfl

/-- A torn down Relay Transmitter holds no reservation (R146). -/
theorem RelayTransmitter.cancel_reserved (r : RelayTransmitter) : r.cancel.reserved = 0 := by
  have none_left : ∀ fs : List RelayFrame,
      (fs.map RelayFrame.cancel).countP (fun f => f.confirm == some .reserved) = 0 := by
    intro fs
    rw [List.countP_eq_zero]
    intro f hf
    obtain ⟨g, -, rfl⟩ := List.mem_map.mp hf
    rw [RelayFrame.cancel_eq]
    obtain ⟨tag, node, payload, confirm⟩ := g
    rcases confirm with _ | _ | _ <;> simp
  have : r.cancel.frames = r.frames.map RelayFrame.cancel := by
    obtain ⟨state, sending, queue⟩ := r
    cases sending <;> simp [RelayTransmitter.frames, RelayTransmitter.cancel]
  rw [RelayTransmitter.reserved, this, none_left]

/-- After a teardown no Reply queue entry is reserved (R160, R174). -/
theorem teardown_reservations : (teardown s).reservations = 0 := by
  simp only [State.reservations, teardown, Management.teardown, Bool.toNat_false, Nat.zero_add]
  rw [List.sum_eq_zero]
  intro n hn
  obtain ⟨p, hp, rfl⟩ := List.mem_map.mp hn
  obtain ⟨k, hk, rfl⟩ := List.mem_iff_getElem.mp hp
  simp [RelayTransmitter.cancel_reserved]

@[simp] theorem teardown_cuts : (teardown s).cuts = s.cutTrunk := rfl
@[simp] theorem teardown_inReset : (teardown s).inReset = s.inReset := rfl
@[simp] theorem teardown_deviceTime : (teardown s).deviceTime = s.deviceTime := rfl
@[simp] theorem teardown_map : (teardown s).map = s.map := rfl
@[simp] theorem teardown_records : (teardown s).records = s.records := rfl
@[simp] theorem teardown_periodTimers : (teardown s).periodTimers = s.periodTimers := rfl
@[simp] theorem teardown_routing : (teardown s).routing = s.routing := rfl
@[simp] theorem teardown_stack : (teardown s).stack = [] := rfl
@[simp] theorem teardown_lanes : (teardown s).lanes = s.lanes := rfl
@[simp] theorem teardown_link : (teardown s).link = s.link.teardown := rfl
@[simp] theorem teardown_slots : (teardown s).slots = mergeBack s.slots s.stack := rfl

end Sys2Proof.Machine
end

