-- ==== Sys2Proof/Laws/Frames.lean ====
section
/-! SUPPORT. How lane frames and trunk messages are read back from their characters. -/

namespace Sys2Proof.Machine

@[simp] theorem codeField_length (c : CheckCode) : (codeField c).length = 2 := rfl

/-- The judgement of at least eight characters that end in two check characters (R128). -/
theorem judgeFrame_split (now : Time) (header second third : Byte) (records code : List Byte)
    (two : code.length = 2) (enough : 3 ≤ records.length) :
    judgeFrame now (header :: second :: third :: records ++ code) =
      if code ≠ codeField (crc16 (header :: second :: third :: records)) then .checkError
      else if frameContentOk header second third (records.length + 5) then
        .good ⟨Fin.ofNat 32 header.toNat, second.setWidth 6, Fin.ofNat 16 third.toNat, readings records,
          now⟩
      else .formatError := by
  have length : (header :: second :: third :: records ++ code).length = records.length + 5 := by
    simp [two]
  have long : ¬records.length + 5 < Config.shortestFrame := by
    simp only [Config.shortestFrame]; omega
  have cut : records.length + 5 - 2 = (header :: second :: third :: records).length := by simp
  unfold judgeFrame
  rw [length, if_neg long]
  simp only [cut, List.take_left, List.drop_left]

/-- The judgement of a complete inbound message whose characters end in two check characters (R152,
R153). -/
theorem judgeMessage_complete (kind : Byte) (payload code : List Byte) (fits : payload.length ≤ 240) :
    judgeMessage .lastCharacter (kind :: BitVec.ofNat 8 payload.length :: payload ++ code) =
      if code ≠ codeField (crc16 (kind :: BitVec.ofNat 8 payload.length :: payload)) then .checkError
      else
        match inboundKindOf kind with
        | some k => .valid k payload
        | none => .unknownKind := by
  have length : (BitVec.ofNat 8 payload.length).toNat = payload.length := by
    rw [BitVec.toNat_ofNat]; omega
  have short : ¬payload.length > Config.maxInboundPayload := by simp [Config.maxInboundPayload, fits]
  simp only [judgeMessage, List.cons_append, length, short, if_false, List.take_left, List.drop_left] <;> rfl

end Sys2Proof.Machine
end

