-- ==== Sys2Proof/Laws/Lanes.lean ====
section
/-! SUPPORT. What an enable and a disable do to the lanes and to the points keyed to them. -/

namespace Sys2Proof.Machine

variable (s : State) (l : LaneId)

theorem pairOf_evenLane (k : PairId) : pairOf (evenLane k) = k := Fin.ext (by simp [pairOf, evenLane])

theorem pairOf_oddLane (k : PairId) : pairOf (oddLane k) = k :=
  Fin.ext (by simp only [pairOf, oddLane]; omega)

theorem evenLane_ne_oddLane (k : PairId) : evenLane k ≠ oddLane k := by
  intro h; have := congrArg Fin.val h; simp only [evenLane, oddLane] at this; omega

/-- The lanes of a pair are its even and its odd lane. -/
theorem pairOf_eq_iff (i : LaneId) (k : PairId) : pairOf i = k ↔ i = evenLane k ∨ i = oddLane k := by
  simp only [pairOf, evenLane, oddLane, Fin.ext_iff]; omega

/-- A JOINED pair's lane reaches both lanes of the pair; any other lane reaches itself (R124). -/
theorem reaches_iff (i : LaneId) :
    s.reaches l i = true ↔ (s.joined l = true ∧ pairOf i = pairOf l) ∨ (s.joined l = false ∧ i = l) := by
  cases h : s.joined l
  · simp [State.reaches, h]
  · simp only [State.reaches, h, Bool.true_and, Bool.or_eq_true, beq_iff_eq, true_and,
      reduceCtorEq, false_and, or_false]
    exact ⟨fun e => e.elim (fun e => by rw [e]) id, .inr⟩

/-- The lanes reached are those the list names. -/
theorem mem_reached (i : LaneId) : i ∈ s.reached l ↔ s.reaches l i = true := by
  rw [reaches_iff]
  cases h : s.joined l
  · simp [State.reached, h]
  · simp [State.reached, h, pairOf_eq_iff]

theorem reached_nodup : (s.reached l).Nodup := by
  unfold State.reached
  split
  · simpa using evenLane_ne_oddLane (pairOf l)
  · simp

/-- A change of the lanes in a list without repeats rewrites each once. -/
theorem foldl_setLane (change : Lane → Lane) (ls : List LaneId) (distinct : ls.Nodup) :
    ∃ lanes : Vector Lane 8,
      ls.foldl (fun s i => s.setLane i (change s.lanes[i])) s = { s with lanes := lanes } ∧
      ∀ i : LaneId, lanes[i] = if i ∈ ls then change s.lanes[i] else s.lanes[i] := by
  induction ls generalizing s with
  | nil => exact ⟨s.lanes, rfl, by simp⟩
  | cons j ls ih =>
    obtain ⟨out, rest⟩ := List.nodup_cons.mp distinct
    obtain ⟨lanes, e, each⟩ := ih (s.setLane j (change s.lanes[j])) rest
    refine ⟨lanes, by rw [List.foldl_cons, e]; rfl, fun i => ?_⟩
    rw [each i, State.setLane_lanes, rowSet_apply]
    by_cases h : i = j
    · subst h; simp [out]
    · simp [h]

/-- A change of the reached lanes rewrites each once and nothing else. -/
theorem mapReached_eq (change : Lane → Lane) : ∃ lanes : Vector Lane 8,
    s.mapReached l change = { s with lanes := lanes } ∧
    ∀ i : LaneId, lanes[i] = if s.reaches l i = true then change s.lanes[i] else s.lanes[i] := by
  obtain ⟨lanes, e, each⟩ := foldl_setLane s change (s.reached l) (reached_nodup s l)
  exact ⟨lanes, e, fun i => by rw [each i]; simp only [mem_reached]⟩

/-- A rewrite of the records of the points keyed to each lane of a list without repeats. -/
theorem foldl_lanePoints (step : LaneId → State → State)
    (new : Stored PointEntry → RuntimeRecord → RuntimeRecord) (hit : Stored PointEntry → Bool)
    (ls : List LaneId) (distinct : ls.Nodup)
    (one : ∀ (i : LaneId) (records : Vector RuntimeRecord 256), ∃ records' : Vector RuntimeRecord 256,
      step i { s with records := records } = { s with records := records' } ∧
      ∀ p : PointId, records'[p] =
        if hit (s.activePoint p) ∧ (s.activePoint p).entry.lane = i then new (s.activePoint p) records[p]
        else records[p]) :
    ∃ records : Vector RuntimeRecord 256,
      ls.foldl (fun s i => step i s) s = { s with records := records } ∧
      ∀ p : PointId, records[p] =
        if hit (s.activePoint p) ∧ (s.activePoint p).entry.lane ∈ ls then
          new (s.activePoint p) s.records[p]
        else s.records[p] := by
  suffices all : ∀ start : Vector RuntimeRecord 256, ∃ records : Vector RuntimeRecord 256,
      ls.foldl (fun s i => step i s) { s with records := start } = { s with records := records } ∧
      ∀ p : PointId, records[p] =
        if hit (s.activePoint p) ∧ (s.activePoint p).entry.lane ∈ ls then
          new (s.activePoint p) start[p]
        else start[p] from all s.records
  induction ls with
  | nil => exact fun start => ⟨start, rfl, by simp⟩
  | cons j ls ih =>
    intro start
    obtain ⟨out, rest⟩ := List.nodup_cons.mp distinct
    obtain ⟨middle, e, each⟩ := one j start
    obtain ⟨records, e', each'⟩ := ih rest middle
    refine ⟨records, by rw [List.foldl_cons, e, e'], fun p => ?_⟩
    rw [each' p, each p]
    by_cases h : (s.activePoint p).entry.lane = j
    · simp [h, out]
    · simp [h]

/-- The records after the points keyed to the reached lanes are cleared (R29). -/
theorem clearReached_eq : ∃ records : Vector RuntimeRecord 256,
    (s.reached l).foldl (fun s i => clearLanePoints i s) s = { s with records := records } ∧
    ∀ p : PointId, records[p] =
      if (s.activePoint p).entry.valid = true ∧ s.reaches l (s.activePoint p).entry.lane = true then
        s.records[p].laneDisabled
      else s.records[p] := by
  obtain ⟨records, e, each⟩ := foldl_lanePoints s clearLanePoints (fun _ r => r.laneDisabled)
    (fun e => e.entry.valid) (s.reached l) (reached_nodup s l)
    (fun i records => ⟨_, rfl, fun p => by rw [rowsMap_apply]; rfl⟩)
  exact ⟨records, e, fun p => by rw [each p]; simp only [mem_reached]⟩

/-- The records after the stale timers of the points keyed to the reached lanes are started (R28). -/
theorem startReached_eq (ls : List LaneId) (distinct : ls.Nodup) :
    ∃ records : Vector RuntimeRecord 256,
    ls.foldl (fun s i => startLaneTimers i s) s = { s with records := records } ∧
    ∀ p : PointId, records[p] =
      if pointUsable (s.activePoint p) = true ∧ (s.activePoint p).entry.lane ∈ ls then
        { s.records[p] with
          timer := (staleStart s (s.activePoint p) s.records[p].condition).or s.records[p].timer }
      else s.records[p] :=
  foldl_lanePoints s startLaneTimers
    (fun e r => { r with timer := (staleStart s e r.condition).or r.timer }) pointUsable ls distinct
    (fun i records => ⟨_, rfl, fun p => by rw [rowsMap_apply]; rfl⟩)

/-- The disable of a lane, or of its JOINED pair: the reached lanes closed, their points UNKNOWN, the pair's
relay frames disposed of (R29, R137, R144). -/
theorem disableLane_eq : ∃ (lanes : Vector Lane 8) (records : Vector RuntimeRecord 256) (closed : State),
    closed = { s with lanes := lanes, records := records } ∧
    disableLane l s = (if s.joined l = true then disposeRelay (pairOf l) closed else closed) ∧
    (∀ i : LaneId, lanes[i] = if s.reaches l i = true then s.lanes[i].disable else s.lanes[i]) ∧
    ∀ p : PointId, records[p] =
      if (s.activePoint p).entry.valid = true ∧ s.reaches l (s.activePoint p).entry.lane = true then
        s.records[p].laneDisabled
      else s.records[p] := by
  obtain ⟨lanes, e, each⟩ := mapReached_eq s l Lane.disable
  obtain ⟨records, e', each'⟩ := clearReached_eq { s with lanes := lanes } l
  refine ⟨lanes, records, _, rfl, ?_, each, each'⟩
  unfold disableLane
  rw [e, show s.reached l = State.reached { s with lanes := lanes } l from rfl, e']

/-- The enable of a lane, or of its JOINED pair: the reached lanes opened, the pair's Relay Transmitter
cleared, and the timers of the points it makes heard started (R28, R136). -/
theorem enableLane_eq : ∃ (lanes : Vector Lane 8) (records : Vector RuntimeRecord 256),
    enableLane l s =
      { s with
        lanes := lanes
        records := records
        pairs :=
          if s.joined l = true then
            rowSet s.pairs (pairOf l) ⟨s.pairs[pairOf l].mode, RelayTransmitter.reset⟩
          else s.pairs } ∧
    (∀ i : LaneId, lanes[i] = if s.reaches l i = true then s.lanes[i].enable else s.lanes[i]) ∧
    ∀ p : PointId, records[p] =
      if pointUsable (s.activePoint p) = true ∧ 0 < (s.activePoint p).entry.staleLimit ∧
          s.reaches l (s.activePoint p).entry.lane = true ∧
          s.transmitting (s.activePoint p).entry.lane = false ∧ s.records[p].condition ≠ .stale then
        { s.records[p] with
          timer := some ⟨s.deviceTime,
            BitVec.ofNat 32 ((s.activePoint p).entry.staleLimit * 100)⟩ }
      else s.records[p] := by
  obtain ⟨lanes, e, each⟩ := mapReached_eq s l Lane.enable
  obtain ⟨ready, hr⟩ : ∃ ready : State, ready =
      { s with
        lanes := lanes
        pairs :=
          if s.joined l = true then
            rowSet s.pairs (pairOf l) ⟨s.pairs[pairOf l].mode, RelayTransmitter.reset⟩
          else s.pairs } := ⟨_, rfl⟩
  obtain ⟨records, e', each'⟩ := startReached_eq ready (s.reached l) (reached_nodup s l)
  refine ⟨lanes, records, ?_, each, fun p => ?_⟩
  · have opened : enableLane l s = (s.reached l).foldl (fun s i => startLaneTimers i s) ready := by
      unfold enableLane
      rw [e, hr]
      cases h : s.joined l <;> simp [State.setPair]
    rw [opened, e', hr]
  · have same : ready.activePoint p = s.activePoint p := by rw [hr]; rfl
    have joins : ∀ i, ready.joined i = s.joined i := by
      intro i
      rw [hr]
      cases h : s.joined l
      · simp [State.joined]
      · simp only [State.joined, if_true, rowSet_apply]
        split
        · rename_i h'; simp only [h']
        · rfl
    have hears : ready.listening (s.activePoint p).entry.lane =
        ((if s.reaches l (s.activePoint p).entry.lane = true then true
          else s.lanes[(s.activePoint p).entry.lane].enabled) &&
          !s.transmitting (s.activePoint p).entry.lane) := by
      simp only [State.listening, State.transmitting, joins]
      congr 1
      rw [show ready.lanes = lanes by rw [hr], each]
      split <;> rfl
    rw [each' p, same, show ready.records = s.records by rw [hr]]
    simp only [mem_reached, staleStart, hears]
    by_cases reach : s.reaches l (s.activePoint p).entry.lane = true
    · simp only [reach, if_true, true_and, and_true, Bool.true_and, Bool.not_eq_true', gt_iff_lt]
      by_cases usable : pointUsable (s.activePoint p) = true
      · simp only [usable, if_true, true_and]
        split
        · rw [hr]; rfl
        · rfl
      · simp [usable]
    · simp [reach]

end Sys2Proof.Machine
end

