-- ==== Sys2Proof/Laws/Operands.lean ====
section
/-! SUPPORT. What the operand forms read: numbered things, enumerated values by their codes, and the first
failing check of a list. -/

namespace Sys2Proof.Machine

theorem byte_of_toNat {b : Byte} {n : Nat} (h : b.toNat = n) : BitVec.ofNat 8 n = b := by
  subst h; simp

theorem u8_of_toNat {b : Byte} {n : Nat} (h : b.toNat = n) : u8 n = [b] := by
  simp [u8, byte_of_toNat h]

/-! ## Numbered things -/

theorem slotOf_none {b : Byte} (h : 32 ≤ b.toNat) : slotOf b = none := by simp [slotOf, h]

theorem slotOf_some {b : Byte} {k : SlotId} (h : b.toNat = k.val) : slotOf b = some k := by
  have : b.toNat < 32 := by omega
  simp [slotOf, h]

theorem laneOf_none {b : Byte} (h : 8 ≤ b.toNat) : laneOf b = none := by simp [laneOf, h]

theorem laneOf_some {b : Byte} {l : LaneId} (h : b.toNat = l.val) : laneOf b = some l := by
  have : b.toNat < 8 := by omega
  simp [laneOf, h]

theorem pairNamed_none {b : Byte} (h : 4 ≤ b.toNat) : pairNamed b = none := by simp [pairNamed, h]

theorem pairNamed_some {b : Byte} {k : PairId} (h : b.toNat = k.val) : pairNamed b = some k := by
  have : b.toNat < 4 := by omega
  simp [pairNamed, h]

theorem groupOf_none {b : Byte} (h : 16 ≤ b.toNat) : groupOf b = none := by simp [groupOf, h]

theorem groupOf_some {b : Byte} {g : GroupId} (h : b.toNat = g.val) : groupOf b = some g := by
  have : b.toNat < 16 := by omega
  simp [groupOf, h]

theorem toFin_of_toNat {b : Byte} {p : PointId} (h : b.toNat = p.val) : b.toFin = p := Fin.ext h

/-! ## Enumerated values -/

/-- A byte names a value exactly while it is below the number of the values. -/
theorem enumOf_isSome {α : Type} (values : List α) (b : Byte) :
    (enumOf values b).isSome = decide (b.toNat < values.length) := by
  rw [Bool.eq_iff_iff]; simp [enumOf]

theorem enumOf_none {α : Type} {values : List α} {b : Byte} (h : values.length ≤ b.toNat) :
    enumOf values b = none := by
  simp [enumOf, h]

theorem enumOf_role (r : Role) : enumOf roles (BitVec.ofNat 8 r.code) = some r := by cases r <;> rfl
theorem enumOf_policy (p : Policy) : enumOf policies (BitVec.ofNat 8 p.code) = some p := by
  cases p <;> rfl
theorem enumOf_sense (x : Sense) : enumOf senses (BitVec.ofNat 8 x.code) = some x := by cases x <;> rfl
theorem enumOf_trigger (t : Trigger) : enumOf triggers (BitVec.ofNat 8 t.code) = some t := by
  cases t <;> rfl
theorem enumOf_mask (m : Mask) : enumOf masks (BitVec.ofNat 8 m.code) = some m := by cases m <;> rfl
theorem enumOf_bitRate (r : BitRate) : enumOf bitRates (BitVec.ofNat 8 r.code) = some r := by
  cases r <;> rfl
theorem enumOf_unmatched (u : UnmatchedOption) :
    enumOf unmatchedOptions (BitVec.ofNat 8 u.code) = some u := by cases u <;> rfl
theorem enumOf_pairMode (m : PairMode) : enumOf pairModes (BitVec.ofNat 8 m.code) = some m := by
  cases m <;> rfl
theorem enumOf_enable (on : Bool) : enumOf enables (BitVec.ofNat 8 (enableCode on)) = some on := by
  cases on <;> rfl
theorem enumOf_confirm (c : Bool) : enumOf confirms (BitVec.ofNat 8 c.toNat) = some c := by cases c <;> rfl
theorem enumOf_counters (c : Bool) : enumOf countersOptions (BitVec.ofNat 8 c.toNat) = some c := by
  cases c <;> rfl
theorem enumOf_deviceCause (d : DeviceCause) :
    enumOf deviceCauses (BitVec.ofNat 8 d.code.val) = some d := by
  have named : ∀ n : LaneId, enumOf deviceCauses (BitVec.ofNat 8 (DeviceCause.laneSuspended n).code.val) =
      some (.laneSuspended n) := by decide
  cases d with
  | laneSuspended n => exact named n
  | _ => rfl

theorem slot_bytes (k : Option SlotId) : ∃ b, slotOrNone k = [b] ∧ slotByteOk b = true ∧ slotOf b = k := by
  cases k with
  | none => exact ⟨255#8, rfl, by decide, by decide⟩
  | some k =>
    refine ⟨BitVec.ofNat 8 k.val, rfl, ?_, slotOf_some ?_⟩
    · have := k.isLt
      simp only [slotByteOk, BitVec.toNat_ofNat, Bool.or_eq_true, decide_eq_true_eq]
      omega
    · simp only [BitVec.toNat_ofNat]
      omega

/-! ## Checks in order -/

@[simp] theorem firstFailure_nil {α : Type} : firstFailure ([] : List (Bool × α)) = none := rfl

/-- The first check of a list decides, or leaves the verdict to the rest. -/
@[simp] theorem firstFailure_cons {α : Type} (ok : Bool) (x : α) (checks : List (Bool × α)) :
    firstFailure ((ok, x) :: checks) = if ok = true then firstFailure checks else some x := by
  cases ok <;> simp [firstFailure]

end Sys2Proof.Machine
end

