-- ==== Sys2Proof/Laws/Requests.lean ====
section
/-! SUPPORT. What the take of a request does, once for all operations: the state its checks see, and the
state its answer leaves. -/

namespace Sys2Proof.Machine

/-- The state in which an operation's own checks run: the request removed, the cache's room made. -/
def taken (tag : Tag) (rest : List (List Byte)) (s : State) : State :=
  setCache (cacheRoom s.mgmt.cache tag) (setInbound rest s)

/-- Every operation's command is the take of that operation with its own checks and effect. -/
def Operation.own (o : Operation) : Tag → List Byte → State → Execution :=
  match o with
  | .readPoint => readPointOwn | .writePoint => writePointOwn | .readGroup => readGroupOwn
  | .writeGroup => writeGroupOwn | .clearShadow => clearShadowOwn | .copyActive => copyActiveOwn
  | .commit => commitOwn | .readCondition => readConditionOwn | .setSlot => setSlotOwn
  | .readSlot => readSlotOwn | .clearSlot => clearSlotOwn | .setRoute => setRouteOwn
  | .alertDone => alertDoneOwn | .readStack => readStackOwn | .setLane => setLaneOwn
  | .readLane => readLaneOwn | .clearLaneCounters => clearLaneCountersOwn | .setPair => setPairOwn
  | .relay => relayOwn | .triggerGroup => triggerGroupOwn | .setTrunk => setTrunkOwn
  | .enterDormant => enterDormantOwn | .readDevice => readDeviceOwn | .restart => restartOwn

theorem exec_command (o : Operation) (s : State) :
    exec o.command s = takeOperation o o.own s := by
  cases o <;> rfl

/-- A take that no cache entry answers runs the tests and the operation's own checks and effect, and
closes with the answer. -/
theorem take_executes {o : Operation} {s : State} {tag : Tag} {operands : List Byte}
    {rest : List (List Byte)} (h : Takes s tag o.code operands rest) :
    exec o.command s =
      .next (closeTake tag o.code (executeTested o o.own tag operands (taken tag rest s))) := by
  rw [exec_command]
  simp only [takeOperation, running, h.released, Bool.false_eq_true, if_false, takeEvent, h.oldest,
    beq_self_eq_true, true_and, gt_iff_lt, h.room, if_true, disposeRequest]
  rw [show (setInbound rest s).mgmt.cache = s.mgmt.cache from rfl, h.fresh]
  rfl

/-- An answered execution on the state `taken` of `t` leaves the reply and the cache entry beside `t`. -/
theorem closeTake_answer (tag : Tag) (op : Byte) (rest : List (List Byte)) (a : Answer) (t : State) :
    closeTake tag op ⟨taken tag rest t, some a⟩ = replied rest ⟨tag, op, a.status, a.results⟩ t := rfl

/-- An operation of the right length, with no long map operation in its way, is its own checks. -/
theorem executeTested_own {o : Operation} {own : Tag → List Byte → State → Execution} {tag : Tag}
    {operands : List Byte} {s : State} (fits : operandsFit o operands = true)
    (free : namesMap o = false ∨ s.mgmt.tracker.operation = .none) :
    executeTested o own tag operands s = own tag operands s := by
  unfold executeTested
  simp only [fits, Bool.not_true, Bool.false_eq_true, if_false]
  rw [if_neg]
  rintro ⟨h, h'⟩
  rcases free with f | f
  · rw [f] at h; cases h
  · exact h' f

/-- The command answers as its own checks do, when they leave the `taken` state of some `t`. -/
theorem take_answers {o : Operation} {s t : State} {tag : Tag} {operands : List Byte}
    {rest : List (List Byte)} {status : Status} {results : List Byte}
    (h : Takes s tag o.code operands rest) (fits : operandsFit o operands = true)
    (free : namesMap o = false ∨ s.mgmt.tracker.operation = .none)
    (ran : o.own tag operands (taken tag rest s) = ⟨taken tag rest t, some ⟨status, results⟩⟩) :
    Answers o s tag rest status results t := by
  unfold Answers
  rw [take_executes h, executeTested_own (s := taken tag rest s) fits free, ran]
  rfl

/-! ## What the checks see -/

variable (tag : Tag) (rest : List (List Byte)) (s : State)

@[simp] theorem taken_map : (taken tag rest s).map = s.map := rfl
@[simp] theorem taken_records : (taken tag rest s).records = s.records := rfl
@[simp] theorem taken_slots : (taken tag rest s).slots = s.slots := rfl
@[simp] theorem taken_routing : (taken tag rest s).routing = s.routing := rfl
@[simp] theorem taken_stack : (taken tag rest s).stack = s.stack := rfl
@[simp] theorem taken_alertCounter : (taken tag rest s).alertCounter = s.alertCounter := rfl
@[simp] theorem taken_lanes : (taken tag rest s).lanes = s.lanes := rfl
@[simp] theorem taken_pairs : (taken tag rest s).pairs = s.pairs := rfl
@[simp] theorem taken_out : (taken tag rest s).out = s.out := rfl
@[simp] theorem taken_deviceTime : (taken tag rest s).deviceTime = s.deviceTime := rfl
@[simp] theorem taken_periodTimers : (taken tag rest s).periodTimers = s.periodTimers := rfl
@[simp] theorem taken_tracker : (taken tag rest s).mgmt.tracker = s.mgmt.tracker := rfl
@[simp] theorem taken_link : (taken tag rest s).link = { s.link with inbound := rest } := rfl
@[simp] theorem taken_replyFree : (taken tag rest s).replyFree = s.replyFree := rfl
@[simp] theorem taken_joined (l : LaneId) : (taken tag rest s).joined l = s.joined l := rfl
@[simp] theorem taken_transmitting (l : LaneId) :
    (taken tag rest s).transmitting l = s.transmitting l := rfl
@[simp] theorem taken_activePoint (p : PointId) : (taken tag rest s).activePoint p = s.activePoint p := rfl
@[simp] theorem taken_activeGroup (g : GroupId) : (taken tag rest s).activeGroup g = s.activeGroup g := rfl

/-- A raise made while a request is executed is the raise the state without it makes. -/
theorem raiseInto_taken (slot : Option SlotId) (c : Cause) :
    raiseInto slot c (taken tag rest s) = taken tag rest (raiseInto slot c s) := by
  cases slot with
  | none => rfl
  | some k =>
    show wakeCheck (taken tag rest (s.setSlot k (s.slots[k].raise c))) =
      taken tag rest (wakeCheck (s.setSlot k (s.slots[k].raise c)))
    generalize s.setSlot k (s.slots[k].raise c) = u
    unfold wakeCheck
    by_cases h : u.link.state = .dormant ∧ u.wakeDemand = true
    · rw [if_pos h, if_pos (show (taken tag rest u).link.state = .dormant ∧
        (taken tag rest u).wakeDemand = true from h)]
      rfl
    · rw [if_neg h, if_neg (show ¬((taken tag rest u).link.state = .dormant ∧
        (taken tag rest u).wakeDemand = true) from h)]

end Sys2Proof.Machine
end

