-- ==== Sys2Proof/Laws/Reset.lean ====
section
/-! SUPPORT. What the warm restart leaves, block by block. -/

namespace Sys2Proof.Machine

variable (s : State)

/-- A warm restart leaves a lane enabled or disabled as it was (R148). -/
theorem Lane.warmRestart_enabled (x : Lane) : x.warmRestart.enabled = x.enabled := by
  cases h : x.state <;> simp [Lane.enabled, Lane.warmRestart, h] <;> rfl

/-- The warm restart, field by field: RESTARTED stands in the slot its routing row names (R196). -/
theorem warmRestart_eq : ∃ (slots : Vector Slot 32) (records : Vector RuntimeRecord 256),
    warmRestart s =
      { s with
        map := { s.map with partialIndex := [] }
        records := records
        servicePointer := 7
        periodTimers :=
          rowsMap (fun g _ => restartPeriodTimer s.deviceTime (s.activeGroup g)) s.periodTimers
        slots := slots
        stack := []
        alertCounter := 0#8
        lanes := rowsMap (fun _ x => x.warmRestart) s.lanes
        pairs := rowsMap (fun _ p => { p with relay := RelayTransmitter.reset }) s.pairs
        link := s.link.warmRestart
        out := Outbound.reset
        mgmt := Management.reset
        cuts := s.relaysCut } ∧
    (∀ k : SlotId, slots[k] =
      if s.routing[DeviceCause.restarted.code] = some k then
        s.slots[k].warmRestart.raise (.device .restarted)
      else s.slots[k].warmRestart) ∧
    ∀ p : PointId, records[p] =
      { RuntimeRecord.cleared with
        timer :=
          if pointUsable (s.activePoint p) ∧ 0 < (s.activePoint p).entry.staleLimit ∧
              s.listening (s.activePoint p).entry.lane then
            some ⟨s.deviceTime, BitVec.ofNat 32 ((s.activePoint p).entry.staleLimit * 100)⟩
          else none } := by
  obtain ⟨cleared, hc⟩ : ∃ cleared : State, cleared =
      { s with
        map := { s.map with partialIndex := [] }
        records := rowsMap (fun _ _ => RuntimeRecord.cleared) s.records
        servicePointer := 7
        periodTimers :=
          rowsMap (fun g _ => restartPeriodTimer s.deviceTime (s.activeGroup g)) s.periodTimers
        slots := rowsMap (fun _ sl => sl.warmRestart) s.slots
        stack := []
        alertCounter := 0#8
        lanes := rowsMap (fun _ x => x.warmRestart) s.lanes
        pairs := rowsMap (fun _ p => { p with relay := RelayTransmitter.reset }) s.pairs
        link := s.link.warmRestart
        out := Outbound.reset
        mgmt := Management.reset
        cuts := s.relaysCut } := ⟨_, rfl⟩
  obtain ⟨settled, hs⟩ : ∃ settled : State, settled =
      { cleared with
        records :=
          rowsMap
            (fun p r => { r with timer := staleStart cleared (cleared.activePoint p) r.condition })
            cleared.records } := ⟨_, rfl⟩
  have whole : warmRestart s = raiseDevice .restarted settled := by rw [hs, hc]; rfl
  obtain ⟨slots, raised, each⟩ := raiseInto_awake settled settled.routing[DeviceCause.restarted.code]
    (.device .restarted) (by subst hs hc; simp [LinkControl.warmRestart, LinkControl.coldReset])
  refine ⟨slots, settled.records, ?_, fun k => ?_, fun p => ?_⟩
  · rw [whole, raiseDevice, raised, hs, hc]
  · rw [each k, hs, hc]
    simp only [rowsMap_apply]
  · have listens : cleared.listening (cleared.activePoint p).entry.lane =
        s.listening (s.activePoint p).entry.lane := by
      subst hc
      simp only [State.listening, State.transmitting, State.joined, rowsMap_apply,
        Lane.warmRestart_enabled]
      rfl
    rw [hs]
    simp only [rowsMap_apply, staleStart, listens]
    subst hc
    have fresh : RuntimeRecord.cleared.condition ≠ .stale := by decide
    simp only [rowsMap_apply, ne_eq, fresh, not_false_eq_true, and_true]
    rfl

end Sys2Proof.Machine
end

