-- ==== Sys2Proof/Tests/Slice0.lean ====
section
/-! SUPPORT. The model's own tests: ill-formed commands refused by `wellFormed`, one-step tests of the
commands (expected results from the manual's worked examples and tables, named in each comment), and one
witness per obligation that has hypotheses. -/

namespace Sys2Proof.Tests

open Sys2Proof.Machine

-- One theorem after the other: each is short, and many at once ask for too many threads.
set_option Elab.async false

/-! ## Helpers -/

/-- Whether a command completes with a next state of which `holds` is true. -/
def gives (i : Instr) (s : State) (holds : State → Bool) : Bool :=
  match exec i s with
  | .next t => holds t
  | .fault _ => false
  | .refused _ => false

/-- A released part on an ACTIVE link at device time `now`, every slot emptied. -/
def linked (now : Time) : State :=
  { State.reset with
    deviceTime := now
    slots := Vector.replicate 32 Slot.coldReset
    link := { State.reset.link with state := .active } }

/-- The state with one request waiting at the Management Unit. -/
def asking (tag op : Byte) (operands : List Byte) (s : State) : State :=
  s.setLink { s.link with inbound := [tag :: op :: operands] }

/-- A SPLIT lane in this state. -/
def withLane (l : LaneId) (x : LaneState) (s : State) : State :=
  s.setLane l { s.lanes[l] with state := x }

/-- Points written into the active bank with their codes and key index rows. -/
def withPoints (ps : List (PointId × PointEntry)) (s : State) : State :=
  { s with
    map :=
      { s.map.setActiveBank
          (ps.foldl (fun b x => b.setPoint x.1 x.2.stored) s.map.activeBank) with
        keyIndex := ps.map fun x => ⟨x.2.key, x.1⟩ } }

/-- A group written into the active bank with its code. -/
def withGroup (g : GroupId) (e : GroupEntry) (s : State) : State :=
  s.setMap (s.map.setActiveBank (s.map.activeBank.setGroup g e.stored))

/-- A long map operation in flight under tag 60 with its reply owed. -/
def withLongOp (o : LongOp) (phase : Phase) (position : Nat) (s : State) : State :=
  s.setMgmt
    { s.mgmt with
      cache := [⟨60, o.requestCode, none⟩]
      tracker := ⟨o, 60, phase, position, true⟩
      reservation := true }

/-- Pair 1 JOINED and enabled, its Relay Transmitter in this state. -/
def withRelay (relay : RelayTransmitter) (s : State) : State :=
  withLane 2 .hunt (withLane 3 .hunt (s.setPair 1 ⟨.joined, relay⟩))

/-- The status and the results of the newest message of the Reply queue, when it is a REPLY. -/
def lastReply (s : State) : Option (Status × List Byte) :=
  match s.out.replyQ.getLast? with
  | some (.reply r) => some (r.status, r.results)
  | _ => none

/-- A point entry on a key with a window, ALWAYS, qualify 1, no hysteresis, no stale limit. -/
def plainPoint (lane : LaneId) (node : NodeAddr) (index : PointIndex) (lower upper : Value)
    (slot : SlotId) : PointEntry :=
  { PointEntry.invalid with
    valid := true, lane := lane, node := node, index := index, policy := .always, lower := lower,
    upper := upper, raiseOn := ⟨true, false, false, false⟩, slot := some slot }

/-- Point 40 of chapter 2's example "One Point Through a Run of Samples". -/
def point40 : PointEntry :=
  { plainPoint 2 7 4 (BitVec.ofInt 16 (-100)) 100 5 with
    policy := .deadband, deadband := 25, hysteresis := 10, qualify := 3, staleLimit := 30,
    raiseOn := ⟨true, true, false, false⟩ }

/-- A good reading of this value. -/
def good (v : Value) : Reading := ⟨v, false, false⟩

/-- A frame of one or more readings. -/
def frameOf (node : NodeAddr) (q : Sequence) (i : PointIndex) (rs : List Reading) : Frame :=
  ⟨node, q, i, rs, 1000⟩

/-- A state in which one frame waits on a listening lane. -/
def withFrame (l : LaneId) (f : Frame) (s : State) : State :=
  s.setLane l { s.lanes[l] with state := .hunt, fifo := [f] }

/-- A filler DATA message. -/
def filler : Message := .data ⟨0, .normal, false, good 0, 0, 0⟩

/-- A record of the stack with one cause. -/
def recordOf (number : AlertNumber) (slot : SlotId) (level : Level) (cause : Cause) (state : RecordState) :
    InService :=
  ⟨number, slot, level, [cause], false, 1000, 0, state,
    if state = .awaiting then some ⟨1040, 2000⟩ else none⟩

/-- The ALERT of a record. -/
def alertOf (r : InService) : Message :=
  .alert ⟨r.number, r.slot, r.level, r.repeatCount, r.captureTime, r.overflow, r.causes⟩

/-- The three records of chapter 4's example after its event 9. -/
def nested : List InService :=
  [recordOf 17 4 3 (.point 33) .awaiting, recordOf 18 9 1 (.point 51) .awaiting,
    recordOf 19 0 0 (.device .mapIntegrity) .awaiting]

/-- A slot at a level, UNMASKED, with these causes. -/
def openSlot (level : Level) (causes : List Cause) : Slot := ⟨level, .unmasked, causes, false⟩

/-! ## Ill-formed commands -/

/-- R127: an over-length frame has exactly eighteen characters. -/
theorem test_wellFormed_overLength_short :
    (Instr.frameEnd 0 .overLength (List.replicate 17 0)).wellFormed = false := by decide
/-- R127: an idle gap cannot end a frame of eighteen characters. -/
theorem test_wellFormed_idleGap_long :
    (Instr.frameEnd 0 .idleGap (List.replicate 18 0)).wellFormed = false := by decide
/-- R127: nor can a framing fault. -/
theorem test_wellFormed_fault_long :
    (Instr.frameEnd 0 .framingFault (List.replicate 18 0)).wellFormed = false := by decide
/-- R152: the last announced character ends a message of its announced length alone. -/
theorem test_wellFormed_message_short :
    (Instr.messageEnd .lastCharacter [1, 2, 0, 0]).wellFormed = false := by decide
/-- R152: a message whose length character never came is not complete. -/
theorem test_wellFormed_message_unannounced :
    (Instr.messageEnd .lastCharacter [1]).wellFormed = false := by decide
/-- R152: a gap ends a message before its last character. -/
theorem test_wellFormed_gap_complete :
    (Instr.messageEnd .idleGap [3, 0, 0, 0]).wellFormed = false := by decide
/-- R152: so does a framing fault. -/
theorem test_wellFormed_fault_complete :
    (Instr.messageEnd .framingFault [3, 0, 0, 0]).wellFormed = false := by decide
/-- R152, R157: no payload is longer than 240. -/
theorem test_wellFormed_attach_long : (Instr.attach (List.replicate 241 0)).wellFormed = false := by decide +kernel
theorem test_wellFormed_request_long : (Instr.request (List.replicate 241 0)).wellFormed = false := by
  decide +kernel
theorem test_wellFormed_keepalive_long :
    (Instr.keepalive (List.replicate 241 0)).wellFormed = false := by decide +kernel

/-! ## Encodings (chapter 11) -/

/-- R199's CRC on the nine characters "123456789"; AEE7h is the published check value of this CRC-16. -/
theorem test_crc16_check_value :
    crc16 [0x31, 0x32, 0x33, 0x34, 0x35, 0x36, 0x37, 0x38, 0x39] = 0xAEE7 := by decide +kernel
/-- R200's worked frame: a BURST of three points at index 5 from node 9 has header kind 2 and node 9, count
code 2 and 14 characters. -/
theorem test_burst_of_three :
    let records : List Byte := [0, 10, 0, 255, 246, 1, 0, 30, 2]
    let chars := nodeFrameChars 2 9 0x87 5 records
    chars.length = 14 ∧ chars.head? = some 0x49 ∧
      judgeFrame 1000 chars =
        .good ⟨9, 7, 5, [good 10, ⟨BitVec.ofInt 16 (-10), true, false⟩, ⟨30, false, true⟩], 1000⟩ := by
  decide +kernel
/-- R157, R201: an ATTACH_REPLY's payload is 32 bytes: identity 3, generation 2, bank, cause, time 4, five
parameters 6, capacities 15. -/
theorem test_attachReply_length :
    (Message.attachReply ⟨7, .b, .powerOn, 1000, TrunkParams.default⟩).payload.length = 32 := by
  decide +kernel
/-- R203: an ALERT with two causes has a payload of 10 + 2·2 bytes; R176: it lasts (14 + 5)·10 bit times. -/
theorem test_alert_length :
    let m := Message.alert ⟨17, 4, 3, 0, 1000, false, [.point 33, .device .mapIntegrity]⟩
    m.payload.length = 14 ∧ m.bitTimes = 190 ∧ m.payload.drop 10 = [0, 33, 1, 10] := by decide +kernel

/-! ## Resets and time -/

/-- A part whose trunk and pair 1 finish a character of a transmission cut short, until `interval`
milliseconds after 1000. -/
def cutting (interval : Time) (s : State) : State :=
  { s with
    cuts := ⟨some ⟨0xD4, ⟨1000, interval⟩⟩, rowSet s.cuts.relays 1 (some ⟨0xC3, ⟨1000, interval⟩⟩), 2⟩ }

/-- R64, R158: a reset by the RESET input leaves RESTARTED in slot 0 and RESET_LINE as restart cause. -/
theorem test_coldReset : gives (.coldReset .resetLine) (linked 1000) (fun t =>
    t.inReset && t.slots[0].causes == [.device .restarted] && t.link.restartCause == .resetLine &&
      t.deviceTime == 0) = true := by decide +kernel
/-- R204: at cold reset the lines idle at once, one in transmission and one finishing a character alike. -/
theorem test_coldReset_lines : gives (.coldReset .powerOn)
    (cutting 9 { linked 1000 with out := { Outbound.reset with sending := some filler } }) (fun t =>
    t.ttxd == [] && t.ltx 1 == [] && !t.lde 1) = true := by decide +kernel
/-- R204: code 3 on the straps is 9600 bit/s. -/
theorem test_resetRelease : gives (.resetRelease 3) { linked 1000 with inReset := true } (fun t =>
    !t.inReset && t.trunkRate == 3 && Config.trunkRate t.trunkRate == 9600) = true := by decide +kernel
/-- Conventions of chapter 0: device time wraps from its largest value to 0. -/
theorem test_time_wraps : (match step (linked 0xFFFFFFFF) with
    | .next t => t.deviceTime == 0
    | _ => false) = true := by decide +kernel

/-- R204: a character of a transmission cut short is finished, and then the line idles. -/
theorem test_cut_ends : (match step (cutting 1 (linked 1000)), step (cutting 2 (linked 1000)) with
    | .next t, .next u => t.ttxd == [] && t.cuts.relays[1] == none && u.ttxd == [0xD4]
    | _, _ => false) = true := by decide +kernel

/-! ## Lanes: chapter 7's example "A Noisy Lane Reaching Suspension" -/

/-- Lane 6 after event 8, with a frame in progress. -/
def noisy : State :=
  (linked 5400).setLane 6
    { Lane.coldReset with
      state := .receiving, frame := some [], errors := 3
      counters := ⟨27, 21, 1, 3, 1, 1, 0, 0⟩ }

/-- Event 9: the fourth error suspends the lane, starts the holdoff to 6400 and raises LANE_SUSPENDED_6. -/
theorem test_frameEnd_suspends : gives (.frameEnd 6 .framingFault [1, 2, 3]) noisy (fun t =>
    t.lanes[6].state == .suspended && t.lanes[6].errors == 4 &&
      t.lanes[6].holdoffTimer == some ⟨5400, 1000⟩ &&
      t.lanes[6].counters == ⟨28, 21, 2, 3, 1, 1, 0, 0⟩ &&
      t.slots[0].causes == [.device (.laneSuspended 6)]) = true := by decide +kernel
/-- Event 7: a frame of node 31 whose CRC agrees is a format error. -/
theorem test_frameEnd_node31 :
    gives (.frameEnd 6 .idleGap (nodeFrameChars 1 31 5 0 [0, 1, 0]))
      (noisy.setLane 6 { noisy.lanes[6] with errors := 1 }) (fun t =>
        t.lanes[6].state == .hunt && t.lanes[6].errors == 2 &&
          t.lanes[6].counters.formatErrors == 2 && t.lanes[6].frame == none) = true := by decide +kernel
/-- Event 12: the holdoff expires with a frame in progress; the lane stays SUSPENDED. -/
theorem test_holdoffExpiry : gives (.holdoffExpiry 6)
    ({ noisy with deviceTime := 6400 }.setLane 6
      { noisy.lanes[6] with state := .suspended, holdoffTimer := some ⟨5400, 1000⟩ }) (fun t =>
    t.lanes[6].state == .suspended && t.lanes[6].holdoffElapsed && t.lanes[6].holdoffTimer == none) =
      true := by decide +kernel
/-- R126: a start delimiter in HUNT begins a frame. -/
theorem test_laneFrameBegin : gives (.laneFrameBegin 6) (withLane 6 .hunt (linked 1000)) (fun t =>
    t.lanes[6].state == .receiving && t.lanes[6].frame == some []) = true := by decide +kernel

/-! ## Relays: chapter 7's example "Disabling a Pair with Relays Outstanding" -/

/-- Frame 50 of the example, confirmed. -/
def frame50 : RelayFrame := ⟨50, 4, List.replicate 12 0, some .reserved⟩
/-- The Relay Transmitter of pair 1 at event 7. -/
def relaysOut : RelayTransmitter :=
  ⟨.sending, some frame50, [⟨51, 31, [1, 2, 3], none⟩, ⟨52, 6, List.replicate 20 0, some .reserved⟩]⟩

/-- Event 7: RELAY_DONE 50 ABANDONED, RELAY_DONE 52 DISCARDED, then OK 54; pair 1 is idle and empty, and its
line finishes one character (R204). -/
theorem test_setLane_disables_pair :
    gives .setLane (asking 54 15 [3, 1, 1, 4, 10, 0] (withRelay relaysOut (linked 1000))) (fun t =>
      t.out.replyQ.take 2 == [.relayDone ⟨50, 2, .abandoned⟩, .relayDone ⟨52, 2, .discarded⟩] &&
        (lastReply t).map (fun x => x.1) == some .ok && t.out.replyQ.length == 3 &&
        t.lanes[2].state == .disabled && t.pairs[1].relay == RelayTransmitter.reset &&
        t.reservations == 0 && (t.ltx 1).length == 1 && !t.lde 1) = true := by decide +kernel
/-- R123: SET_LANE ON of a DISABLED SPLIT lane stores the settings and puts it in HUNT. -/
theorem test_setLane_enables :
    gives .setLane (asking 1 15 [5, 0, 4, 15, 255, 1] (linked 1000)) (fun t =>
      t.lanes[5].state == .hunt && t.lanes[5].settings == ⟨.r460800, 15, 255, .forwardUnmatched⟩ &&
        lastReply t == some (.ok, [5, 0, 4, 15, 255, 1, 1, 0, 0, 0, 0])) = true := by decide +kernel
/-- Event 4: a confirmed RELAY with room for two entries is queued and reserves one. -/
theorem test_relay_queues :
    gives .relay (asking 52 19 ([2, 6, 1, 20] ++ List.replicate 20 0)
      (withRelay { relaysOut with queue := relaysOut.queue.take 1 } (linked 1000))) (fun t =>
      t.pairs[1].relay == relaysOut && t.reservations == 2 &&
        lastReply t == some (.ok, [2, 6, 2, 1])) = true := by decide +kernel
/-- Event 5: with OK 52 waiting and two reservations, a confirmed RELAY is refused naming REPLY_QUEUE. -/
theorem test_relay_queueFull :
    gives .relay (asking 53 19 [2, 7, 1, 1, 0]
      (placeReply filler (withRelay relaysOut (linked 1000)))) (fun t =>
      t.pairs[1].relay == relaysOut && lastReply t == some (.queueFull, [1])) = true := by decide +kernel
/-- R143: the start takes the oldest frame, and LDE goes high. -/
theorem test_relayTransmissionStart :
    gives (.relayTransmissionStart 1) (withRelay ⟨.idle, none, [frame50]⟩ (linked 1000)) (fun t =>
      t.pairs[1].relay == ⟨.sending, some frame50, []⟩ && t.lde 1 && t.ltx 1 == frame50.chars) =
        true := by decide +kernel
/-- R145: a completed confirmed frame gets RELAY_DONE SENT in its reservation. -/
theorem test_relayTransmissionCompletion :
    gives (.relayTransmissionCompletion 1) (withRelay ⟨.sending, some frame50, []⟩ (linked 1000)) (fun t =>
      t.pairs[1].relay == ⟨.gap, none, []⟩ && t.out.replyQ == [.relayDone ⟨50, 2, .sent⟩] &&
        t.reservations == 0) = true := by decide +kernel
/-- R143: the gap's end leaves the transmitter IDLE. -/
theorem test_gapEnd :
    gives (.gapEnd 1) (withRelay ⟨.gap, none, []⟩ (linked 1000)) (fun t =>
      t.pairs[1].relay.state == .idle) = true := by decide +kernel
/-- Chapter 7's example: a READ_LANE at 5900 shows SUSPENDED, count 4 and 500 ms of holdoff remaining. -/
theorem test_readLane :
    gives .readLane (asking 1 16 [6]
      ({ noisy with deviceTime := 5900 }.setLane 6
        { noisy.lanes[6] with
          state := .suspended, frame := none, errors := 4, holdoffTimer := some ⟨5400, 1000⟩ })) (fun t =>
      (lastReply t).map (fun x => (x.1, (x.2.drop 9).take 8)) ==
        some (.ok, [3, 0, 4, 0, 0, 1, 0xF4, 0])) = true := by decide +kernel
/-- R134: the reply carries the counters as they stood, and they are cleared. -/
theorem test_clearLaneCounters :
    gives .clearLaneCounters (asking 1 17 [6] noisy) (fun t =>
      t.lanes[6].counters == LaneCounters.zero &&
        (lastReply t).map (fun x => x.2.take 9) == some [6, 0, 0, 0, 27, 0, 0, 0, 21]) = true := by
  decide +kernel
/-- R125: a pair with an enabled lane refuses SET_PAIR, naming it. -/
theorem test_setPair_active :
    gives .setPair (asking 1 18 [3, 1] (withLane 7 .hunt (linked 1000))) (fun t =>
      t.pairs[3].mode == .split && lastReply t == some (.laneActive, [7])) = true := by decide +kernel
/-- R125: a pair with both lanes disabled takes the mode. -/
theorem test_setPair :
    gives .setPair (asking 1 18 [3, 1] (linked 1000)) (fun t =>
      t.pairs[3].mode == .joined && lastReply t == some (.ok, [3, 1])) = true := by decide +kernel

/-! ## The Classifier: chapter 2's examples -/

/-- Point 40 before frame 9 of the example. -/
def beforeFrame9 : State :=
  (withPoints [(40, point40)] (withFrame 2 (frameOf 7 18 4 [good 150]) (linked 1000))).setRecord 40
    { RuntimeRecord.cleared with
      condition := .normal, vote := 2, lastValue := some 140, lastSequence := some 16,
      lastForwarded := some 120, samples := 7, duplicates := 1 }

/-- Frame 9: a gap, ABNORMAL on the third vote, POINT 40 raised into slot 5, a DATA with the flag. -/
theorem test_frameTaken_point40 : gives .frameTaken beforeFrame9 (fun t =>
    t.records[40] ==
        { RuntimeRecord.cleared with
          condition := .abnormal, lastValue := some 150, lastSequence := some 18,
          lastForwarded := some 150, lastSampleTime := some 1000, timer := some ⟨1000, 3000⟩,
          samples := 8, gaps := 1, duplicates := 1 } &&
      t.slots[5].causes == [.point 40] && t.servicePointer == 2 &&
      t.out.dataQ == [.data ⟨40, .abnormal, true, good 150, 18, 1000⟩]) = true := by decide +kernel
/-- "A Burst Across Two Points and a Full Data Queue": point 60 is sent into the last free entry, point 61's
and the unmatched sample's messages are lost, and slot 2 holds POINT 60 and DATA_LOSS. -/
theorem test_frameTaken_burst :
    let s := withPoints [(60, plainPoint 5 3 6 0 1000 2), (61, plainPoint 5 3 7 0 1000 2)]
      (withFrame 5 (frameOf 3 9 6 [good 1200, good 500, good 40]) (linked 1000))
    let known : RuntimeRecord :=
      { RuntimeRecord.cleared with condition := .normal, lastSequence := some 8 }
    let s := (s.setRecord 60 known).setRecord 61 known
    let s := s.setLane 5
      { s.lanes[5] with settings := { LaneSettings.default with unmatched := .forwardUnmatched } }
    gives .frameTaken
      { s with
        routing := rowSet s.routing 8 (some 2)
        out := { s.out with dataQ := List.replicate 31 filler } } (fun t =>
        t.out.dataQ.length == 32 && t.out.loss == 2 &&
          t.slots[2].causes == [.point 60, .device .dataLoss] &&
          t.records[60].condition == .abnormal && t.records[61].lastForwarded == none &&
          t.lanes[5].counters.unmatched == 1) = true := by decide +kernel
/-- Event 17: the point goes STALE; STALE is not selected, so nothing is raised. -/
theorem test_staleExpiry : gives (.staleExpiry 40)
    ({ beforeFrame9 with deviceTime := 4000 }.setRecord 40
      { beforeFrame9.records[40] with timer := some ⟨1000, 3000⟩ }) (fun t =>
    t.records[40].condition == .stale && t.records[40].vote == 0 && t.records[40].timer == none &&
      t.slots[5].causes == [] && t.out.dataQ == []) = true := by decide +kernel
/-- R48: READ_CONDITION with CLEAR answers the counters, then clears them alone. -/
theorem test_readCondition : gives .readCondition (asking 1 8 [40, 1] beforeFrame9) (fun t =>
    t.records[40].samples == 0 && t.records[40].duplicates == 0 && t.records[40].vote == 2 &&
      (lastReply t).map (fun x => x.2.drop 23) == some [0, 0, 0, 7, 0, 0, 0, 0, 0, 0, 0, 1]) = true := by
  decide +kernel

/-! ## Slots: chapter 3's example "One Slot Through Raises, Pruning and a Clear" -/

/-- Slot 7 after event 14, with overflow set. -/
def slot7 : State :=
  (linked 1000).setSlot 7
    ⟨2, .masked, [.point 20, .point 21, .device (.laneSuspended 3), .point 23, .point 24, .point 26,
      .point 27, .point 28], true⟩

/-- Event 15: READ_SLOT shows level 2, MASKED, pending, eight entries, overflow, no record in service. -/
theorem test_readSlot : gives .readSlot (asking 1 10 [7] slot7) (fun t =>
    lastReply t == some (.ok, [7, 2, 0, 1, 8, 0, 20, 0, 21, 1, 3, 0, 23, 0, 24, 0, 26, 0, 27, 0, 28, 1, 0, 0])) =
      true := by decide +kernel
/-- Event 16: SET_ROUTE answers the new route 9 and the former route 7. -/
theorem test_setRoute : gives .setRoute
    (asking 1 12 [3, 9] { slot7 with routing := rowSet slot7.routing 3 (some 7) }) (fun t =>
    t.routing[3] == some 9 && lastReply t == some (.ok, [3, 9, 7])) = true := by decide +kernel
/-- Event 17: CLEAR_SLOT answers eight entries discarded and overflow set; level and mask stay. -/
theorem test_clearSlot : gives .clearSlot (asking 1 11 [7] slot7) (fun t =>
    t.slots[7] == ⟨2, .masked, [], false⟩ && lastReply t == some (.ok, [7, 8, 1])) = true := by
  decide +kernel
/-- R60: SET_SLOT unmasks and leaves the causes; UNMASKED is code 1. -/
theorem test_setSlot : gives .setSlot (asking 1 9 [7, 1, 1] slot7) (fun t =>
    t.slots[7] == { slot7.slots[7] with level := 1, mask := .unmasked } &&
      lastReply t == some (.ok, [7, 1, 1, 1])) = true := by decide +kernel

/-! ## Alerts: chapter 4's examples -/

/-- Event 6: slot 0 is captured on top of records 17 and 18 as number 19. -/
theorem test_capture : gives .capture
    ({ linked 1520 with stack := nested.take 2, alertCounter := 19 }.setSlot 0
      (openSlot 0 [.device .mapIntegrity])) (fun t =>
    t.stack.length == 3 && t.alertCounter == 20 && t.slots[0].causes == [] &&
      t.out.alertQ == [.alert ⟨19, 0, 0, 0, 1520, false, [.device .mapIntegrity]⟩]) = true := by
  decide +kernel
/-- R69: with level 1 on top of the stack, a slot of level 1 is not captured. -/
theorem test_capture_none : gives .capture
    ({ linked 1520 with stack := nested.take 2, alertCounter := 19 }.setSlot 3 (openSlot 1 [.point 1]))
    (fun t => t.stack.length == 2 && t.alertCounter == 19) = true := by decide +kernel
/-- Event 13: the timer of record 17 expires at 3040; its first repeat is queued, with capture time 1000. -/
theorem test_acknowledgement_repeat : gives (.acknowledgementTimerExpiry 17)
    { linked 3040 with stack := nested.take 2 } (fun t =>
    t.stack.map (fun r => (r.number, r.state, r.repeatCount)) ==
        [(17, .queued, 1), (18, .awaiting, 0)] &&
      t.out.alertQ == [.alert ⟨17, 4, 3, 1, 1000, false, [.point 33]⟩]) = true := by decide +kernel
/-- R79, R80: with retry limit 0 the record lapses at its first expiry. -/
theorem test_acknowledgement_lapse : gives (.acknowledgementTimerExpiry 17)
    ({ linked 3040 with stack := nested.take 2 }.setLink
      { (linked 3040).link with params := { TrunkParams.default with retryLimit := 0 } }) (fun t =>
    t.stack.map (fun r => r.number) == [18] && t.out.alertQ == [.lapse ⟨17, 4, 3, 0, 3040⟩] &&
      t.slots[0].causes == [.device .alertLapse]) = true := by decide +kernel
/-- R78: of two owed repeats, the one nearest the top takes the entry. -/
theorem test_owedRepeat : gives .owedRepeatPlacement
    { linked 3040 with
      stack := [recordOf 17 4 3 (.point 33) .repeatOwed, recordOf 18 9 1 (.point 51) .repeatOwed] }
    (fun t => t.stack.map (fun r => r.state) == [.repeatOwed, .queued] && t.out.alertQ.length == 1) =
      true := by decide +kernel
/-- Event 10: ALERT_DONE of the bottom record is NOT_TOP with number 19 and level 0. -/
theorem test_alertDone_notTop : gives .alertDone
    (asking 1 13 [17] { linked 2000 with stack := nested }) (fun t =>
    t.stack == nested && lastReply t == some (.notTop, [17, 19, 0])) = true := by decide +kernel
/-- Event 12: ALERT_DONE 19 pops it; the service level is then 1. -/
theorem test_alertDone_top : gives .alertDone
    (asking 1 13 [19] { linked 2200 with stack := nested }) (fun t =>
    t.stack == nested.take 2 && lastReply t == some (.ok, [19, 0, 0, 2, 1])) = true := by decide +kernel
/-- R88: READ_STACK answers count 3, service level 0 and the counter first. -/
theorem test_readStack : gives .readStack
    (asking 1 14 [] { linked 2000 with stack := nested, alertCounter := 20 }) (fun t =>
    (lastReply t).map (fun x => x.2.take 8) == some [3, 0, 20, 17, 4, 3, 2, 0]) = true := by
  decide +kernel

/-! ## The map: chapters 1 and 5 -/

/-- R202, R5: check 1 of a WRITE_POINT with lane 8 names field 2, and nothing is stored. -/
theorem test_writePoint_refused : gives .writePoint
    (asking 1 2 [12, 1, 8, 0, 0, 0, 0, 0, 0, 0, 0, 0, 0, 0, 0, 1, 0, 0, 0, 255] (linked 1000)) (fun t =>
    lastReply t == some (.badValue, [2]) && t.map.bankB.points[12].entry == PointEntry.invalid) =
      true := by decide +kernel
/-- R6: a write goes to the shadow, Bank B, and its reply carries the code. -/
theorem test_writePoint : gives .writePoint (asking 1 2 (40 :: point40.bytes) (linked 1000)) (fun t =>
    t.map.bankB.points[40].entry == point40 && t.map.bankA.points[40].entry == PointEntry.invalid &&
      lastReply t == some (.ok, [40] ++ codeField point40.checkCode)) = true := by decide +kernel
/-- Chapter 1's example, event 3: READ_POINT of a marked entry that disagrees shows MISMATCH and the mark. -/
theorem test_readPoint :
    let s := withPoints [(12, point40)] (linked 1000)
    let upset : Stored PointEntry := ⟨{ point40 with upper := 101 }, point40.checkCode, true⟩
    gives .readPoint
      (asking 1 1 [12, 0] (s.setMap (s.map.setActiveBank (s.map.activeBank.setPoint 12 upset)))) (fun t =>
      (lastReply t).map (fun x => x.2.drop 24) == some [1, 1, 0, 0]) = true := by decide +kernel
/-- R8: a WRITE_GROUP of group 2, PERIODIC with period 600, in the shadow. -/
theorem test_writeGroup : gives .writeGroup (asking 1 4 [2, 1, 70, 1, 2, 0x58, 0] (linked 1000)) (fun t =>
    t.map.bankB.groups[2].entry == ⟨.periodic, 70, 1, 600, 0⟩ &&
      t.map.bankA.groups[2].entry == GroupEntry.groupOff) = true := by decide +kernel
/-- R93: READ_GROUP of group 16 is BAD_INDEX. -/
theorem test_readGroup_index : gives .readGroup (asking 1 3 [16, 0] (linked 1000)) (fun t =>
    lastReply t == some (.badIndex, [16])) = true := by decide +kernel
/-- R93: READ_GROUP answers role, bank, group, entry, code, MATCH, mark clear and the generation. -/
theorem test_readGroup : gives .readGroup (asking 1 3 [2, 1] (linked 1000)) (fun t =>
    lastReply t == some (.ok, [1, 1, 2, 0, 0, 1, 0, 10, 0] ++
      codeField GroupEntry.groupOff.checkCode ++ [0, 0, 0, 0])) = true := by decide +kernel
/-- R94: CLEAR_SHADOW empties Bank B and names it. -/
theorem test_clearShadow :
    let s := linked 1000
    gives .clearShadow
      (asking 1 5 [] (s.setMap (s.map.setShadowBank (s.map.shadowBank.setPoint 3 point40.stored)))) (fun t =>
      t.map.bankB.points[3] == PointEntry.invalid.stored && lastReply t == some (.ok, [1])) = true := by
  decide +kernel
/-- Chapter 5's example, event 1: COPY_ACTIVE starts COPYING with a reservation and no reply. -/
theorem test_copyActive : gives .copyActive (asking 30 6 [] (linked 10000)) (fun t =>
    t.mgmt.tracker == ⟨.copyActive, 30, .copying, 0, true⟩ && t.mgmt.reservation &&
      t.out.replyQ == [] && t.mgmt.cache == [⟨30, 6, none⟩]) = true := by decide +kernel
/-- Chapter 10's example, event 11: expected 21, current 22 is GEN_MISMATCH with both. -/
theorem test_commit_mismatch :
    let s := linked 7000
    gives .commit (asking 63 7 [0, 21] (s.setMap { s.map with generation := 22 })) (fun t =>
      lastReply t == some (.genMismatch, [0, 21, 0, 22]) && t.mgmt.tracker == Tracker.idle) = true := by
  decide +kernel
/-- Chapter 5's example, event 8: COMMIT with expected 12 starts CHECKING. -/
theorem test_commit :
    let s := linked 10500
    gives .commit (asking 36 7 [0, 12] (s.setMap { s.map with generation := 12 })) (fun t =>
      t.mgmt.tracker == ⟨.commit, 36, .checking, 0, true⟩ && t.out.replyQ == []) = true := by
  decide +kernel
/-- R98: the copy of an active entry that carries a mark is stored with a clear mark. -/
theorem test_copyActiveEntry :
    let s := withPoints [(3, point40)] (withLongOp .copyActive .copying 3 (linked 1000))
    gives .copyActiveEntry
      (s.setMap (s.map.setActiveBank (s.map.activeBank.setPoint 3 { s.activePoint 3 with mark := true })))
      (fun t => t.map.bankB.points[3] == point40.stored && t.mgmt.tracker.position == 4) = true := by
  decide +kernel
/-- Chapter 5's example without its event 5: key (1, 4, 2) at ids 72 and 73 is DUP_KEY naming both. -/
theorem test_checkPassEntry_dupKey :
    let s := withLongOp .commit .checking 73 (linked 1000)
    let e := plainPoint 1 4 2 0 100 3
    gives .checkPassEntry
      (s.setMap
        { s.map.setShadowBank (s.map.shadowBank.setPoint 73 e.stored) with
          partialIndex := [⟨e.key, 72⟩] }) (fun t =>
      lastReply t == some (.dupKey, [72, 73]) && t.mgmt.tracker == Tracker.idle &&
        t.mgmt.reservation == false) = true := by decide +kernel
/-- Chapter 5's example, event 11, on points 70 (retained) and 71 (upper bound changed): generation 13, Bank
B, one retained, 255 reset; the cause of point 71 leaves slot 3 and that of point 70 stays. -/
theorem test_commitCompletion :
    let old70 := plainPoint 1 4 0 0 50 3
    let old71 := { plainPoint 1 4 1 0 200 3 with staleLimit := 20 }
    let s := withLane 1 .hunt (withPoints [(70, old70), (71, old71)]
      (withLongOp .commit .ready 272 (linked 10510)))
    let s := s.setSlot 3 (openSlot 2 [.point 70, .device .dataLoss, .point 71])
    let s := s.setRecord 70 { RuntimeRecord.cleared with condition := .abnormal }
    let shadow := (s.map.shadowBank.setPoint 70 { old70 with policy := .transition }.stored).setPoint 71
      { old71 with upper := 250 }.stored
    gives .commitCompletion
      (s.setMap { s.map.setShadowBank shadow with generation := 12 }) (fun t =>
      t.map.active == .b && t.map.generation == 13 && t.records[70].condition == .abnormal &&
        t.records[71].timer == some ⟨10510, 2000⟩ &&
        t.slots[3].causes == [.point 70, .device .dataLoss] &&
        lastReply t == some (.ok, [0, 13, 1, 0, 1, 0, 255, 0, 2])) = true := by decide +kernel

/-! ## Reports: chapter 6's example -/

/-- Group 4 of the example at time 20000. -/
def reporting : State :=
  let s := withLane 2 .hunt (withGroup 4 ⟨.periodic, 100, 3, 50, 0⟩
    (withPoints [(100, plainPoint 2 1 0 0 100 2), (101, plainPoint 2 1 1 0 100 2),
      (102, plainPoint 2 1 2 0 100 2)] (linked 20000)))
  let s := s.setMap (s.map.setActiveBank
    (s.map.activeBank.setPoint 101 { s.activePoint 101 with mark := true }))
  let s := s.setRecord 100
    { RuntimeRecord.cleared with condition := .normal, lastValue := some 12, lastSampleTime := some 19850 }
  let s := s.setRecord 101 { RuntimeRecord.cleared with lastValue := some 40 }
  s.setPeriodTimer 4 (some ⟨15000, 5000⟩)

/-- Event 1: members (100, NORMAL, 12, 150), (101, ABSENT), (102, UNKNOWN); the timer restarts. -/
theorem test_periodTimerExpiry : gives (.periodTimerExpiry 4) reporting (fun t =>
    t.out.dataQ ==
        [.report ⟨4, .periodic, none, 0, 20000,
          [⟨100, some .normal, some 12, some 150⟩, ⟨101, none, none, none⟩,
            ⟨102, some .unknown, none, none⟩]⟩] &&
      t.periodTimers[4] == some ⟨20000, 5000⟩) = true := by decide +kernel
/-- Event 4: TRIGGER_GROUP on a full Data queue is QUEUE_FULL and counts no loss. -/
theorem test_triggerGroup_full : gives .triggerGroup
    (asking 90 20 [4]
      ((reporting.setPeriodTimer 4 (some ⟨16000, 8000⟩)).setOut
        { reporting.out with dataQ := List.replicate 32 filler })) (fun t =>
    lastReply t == some (.queueFull, [2, 4, 0, 0, 0x0F, 0xA0]) && t.out.loss == 0) = true := by
  decide +kernel
/-- Event 6: with room it is OK, and the REPORT has origin REQUEST and tag 91. -/
theorem test_triggerGroup : gives .triggerGroup (asking 91 20 [4] reporting) (fun t =>
    (lastReply t).map (fun x => x.1) == some .ok &&
      t.out.dataQ.map (fun m => match m with | .report r => (r.origin, r.tag) | _ => (.periodic, none)) ==
        [(.request, some 91)]) = true := by decide +kernel

/-! ## The trunk: chapters 8 and 9 -/

/-- R152: a start delimiter in HUNT begins a message. -/
theorem test_trunkMessageBegin : gives .trunkMessageBegin (linked 1000) (fun t =>
    t.link.receiver == some []) = true := by decide +kernel

/-- The receiver has a message in progress. -/
def receiving (s : State) : State := s.setLink { s.link with receiver := some [] }

/-- R153, R155: a valid REQUEST is placed in the inbound queue and restarts the silence timer. -/
theorem test_messageEnd_request :
    gives (.messageEnd .lastCharacter (inboundChars 2 [7, 14])) (receiving (linked 1000)) (fun t =>
      t.link.inbound == [[7, 14]] && t.link.receiver == none &&
        t.link.silenceTimer == some ⟨1000, 10000⟩) = true := by decide +kernel
/-- R153: a wrong check code is an inbound check error. -/
theorem test_messageEnd_check :
    gives (.messageEnd .lastCharacter [2, 2, 7, 14, 0, 0]) (receiving (linked 1000)) (fun t =>
      t.link.inbound == [] && t.link.counters.checkErrors == 1 && t.link.receiver == none) = true := by
  decide +kernel
/-- Chapter 8's example, event 9: ATTACH in WAKING tears down, then opens a session; the wake count is kept. -/
theorem test_attach :
    gives (.attach []) (receiving ((linked 138400).setLink
      { (linked 138400).link with
        state := .waking, wakeTimer := some ⟨135000, 5000⟩, wakeCount := 2, restartCause := .none })) (fun t =>
      t.link.state == .active && t.link.silenceTimer == some ⟨138400, 10000⟩ &&
        t.link.wakeTimer == none && t.link.wakeCount == 2 &&
        t.out.replyQ == [.attachReply ⟨0, .a, .none, 138400, TrunkParams.default⟩]) = true := by
  decide +kernel
/-- R155: a fifth REQUEST is an inbound overrun. -/
theorem test_request_overrun :
    gives (.request [9, 14]) (receiving ((linked 1000).setLink
      { (linked 1000).link with inbound := List.replicate 4 [1, 14] })) (fun t =>
      t.link.inbound.length == 4 && t.link.counters.overruns == 1) = true := by decide +kernel
/-- R165: a KEEPALIVE in DORMANT makes the link ACTIVE without teardown. -/
theorem test_keepalive :
    gives (.keepalive []) (receiving ((linked 1000).setLink { (linked 1000).link with state := .dormant }))
      (fun t => t.link.state == .active && t.link.silenceTimer == some ⟨1000, 10000⟩) = true := by
  decide +kernel
/-- Chapter 4's example "Teardown with Records in Service": causes return behind those gathered since. -/
theorem test_silence_mergeBack :
    let s := { linked 2050 with stack := nested, alertCounter := 20 }
    let s := (s.setSlot 4 (openSlot 3 [.point 35])).setSlot 9 (openSlot 1 [.point 52])
    gives .silenceTimerExpiry
      (s.setLink { s.link with silenceTimer := some ⟨0, 2050⟩ }) (fun t =>
      t.link.state == .offline && t.stack == [] && t.alertCounter == 20 &&
        t.slots[4].causes == [.point 35, .point 33] && t.slots[9].causes == [.point 52, .point 51] &&
        t.slots[0].causes == [.device .mapIntegrity]) = true := by decide +kernel
/-- Chapter 9's example "Teardown with Messages Waiting": absorbed 113, lapse not sent 1, loss 4;
the line finishes one character of the message cut short (R180). -/
theorem test_silence_counts :
    let s := withLongOp .commit .checking 5 (linked 2050)
    gives .silenceTimerExpiry
      ((s.setLink { s.link with silenceTimer := some ⟨0, 2050⟩ }).setOut
        { s.out with
          sending := some filler, dataQ := List.replicate 12 filler
          alertQ := [.lapse ⟨31, 2, 1, 3, 2000⟩], replyQ := [.reply ⟨1, 14, .ok, []⟩]
          loss := 4, absorbed := 100 }) (fun t =>
      t.out == { Outbound.reset with loss := 4, absorbed := 113, lapseNotSent := 1 } &&
        t.reservations == 0 && t.mgmt.tracker == ⟨.commit, 60, .checking, 5, false⟩ &&
        t.ttxd.length == 1) = true := by
  decide +kernel
/-- Chapter 8's example, event 8: WAKE 2 of level 1 starts at 135000 and the timer runs to 140000. -/
theorem test_wakeTimerExpiry :
    let s := (linked 135000).setSlot 5 (openSlot 1 [.point 80])
    gives .wakeTimerExpiry
      (s.setLink
        { s.link with state := .waking, wakeTimer := some ⟨130000, 5000⟩, wakeCount := 1 }) (fun t =>
      t.link.wakeCount == 2 && t.link.wakeTimer == some ⟨135000, 5000⟩ &&
        t.out.sending == some (.wake ⟨2, 1, 135000⟩)) = true := by decide +kernel
/-- Chapter 8's example, event 6: a raise in DORMANT takes the link to WAKING with WAKE 1 of level 1. -/
theorem test_raise_wakes :
    let s := (linked 130000).setSlot 5 (openSlot 1 [])
    let t := raiseInto (some 5) (.point 80) (s.setLink { s.link with state := .dormant })
    t.link.state = .waking ∧ t.link.wakeCount = 1 ∧ t.link.wakeTimer = some ⟨130000, 5000⟩ ∧
      t.out.sending = some (.wake ⟨1, 1, 130000⟩) := by decide +kernel
/-- Chapter 9's example, event 3: the ALERT goes ahead of the REPLY and the DATA, and becomes SENDING. -/
theorem test_transmissionStart :
    let r := recordOf 30 2 1 (.point 90) .queued
    gives .transmissionStart
      { linked 1005 with
        stack := [r]
        out := { Outbound.reset with
                 alertQ := [alertOf r], replyQ := [.reply ⟨7, 14, .ok, []⟩], dataQ := [filler] } } (fun t =>
      t.out.sending == some (alertOf r) && t.out.alertQ == [] && t.out.replyQ.length == 1 &&
        t.stack.map (fun x => x.state) == [.sending]) = true := by decide +kernel
/-- Chapter 4's example, event 3: ALERT 17 completes at 1040 and its timer runs to 3040. -/
theorem test_transmissionCompletion_alert :
    let r := recordOf 17 4 3 (.point 33) .sending
    gives .transmissionCompletion
      { linked 1040 with stack := [r], out := { Outbound.reset with sending := some (alertOf r) } } (fun t =>
      t.out.sending == none && t.stack == [recordOf 17 4 3 (.point 33) .awaiting]) = true := by
  decide +kernel
/-- Chapter 8's example, event 4: the dormancy reply completes and three DATA messages are absorbed. -/
theorem test_transmissionCompletion_dormant :
    gives .transmissionCompletion
      { linked 100030 with
        out := { Outbound.reset with
                 sending := some (.reply ⟨120, 22, .ok, []⟩), dataQ := List.replicate 3 filler } } (fun t =>
      t.link.state == .dormant && t.out.dataQ == [] && t.out.absorbed == 3) = true := by decide +kernel

/-! ## Management -/

/-- R185: a request of one byte is removed, counted and not answered. -/
theorem test_shortRequest :
    let s := linked 1000
    gives .shortRequest (s.setLink { s.link with inbound := [[9]] }) (fun t =>
      t.link.inbound == [] && t.mgmt.shortRequests == 1 && t.out.replyQ == []) = true := by decide +kernel
/-- R192: operation code 25 is BAD_OP. -/
theorem test_badOp : gives .badOp (asking 9 25 [1, 2] (linked 1000)) (fun t =>
    t.out.replyQ == [.reply ⟨9, 25, .badOp, []⟩] && t.mgmt.cache.length == 1) = true := by decide +kernel
/-- R162: SET_TRUNK with wake limit 16 names field 3. -/
theorem test_setTrunk_refused : gives .setTrunk (asking 1 21 [10, 5, 16, 0, 20, 3] (linked 1000)) (fun t =>
    lastReply t == some (.badValue, [3]) && t.link.params == TrunkParams.default) = true := by
  decide +kernel
/-- R162: silence timeout 0 stops the silence timer. -/
theorem test_setTrunk :
    let s := linked 1000
    gives .setTrunk (asking 1 21 [0, 60, 15, 2, 0x58, 7]
      (s.setLink { s.link with silenceTimer := some ⟨0, 10000⟩ })) (fun t =>
      t.link.params == ⟨0, 60, 15, 600, 7⟩ && t.link.silenceTimer == none &&
        lastReply t == some (.ok, [0, 60, 15, 2, 0x58, 7])) = true := by decide +kernel
/-- R163: ENTER_DORMANT with three records in service is refused with both counts. -/
theorem test_enterDormant : gives .enterDormant
    (asking 120 22 [] { linked 2000 with stack := nested }) (fun t =>
    lastReply t == some (.alertsOutstanding, [3, 0]) && t.link.state == .active) = true := by decide +kernel
/-- Chapter 10's example, event 5: READ_DEVICE shows COMMIT, CHECKING, position 190 with the reply owed. -/
theorem test_readDevice : gives .readDevice
    (asking 62 23 [] (withLongOp .commit .checking 190 (linked 5800))) (fun t =>
    (lastReply t).map (fun x => x.2.take 16) ==
      some [0x0A, 0x30, 1, 0, 0, 0x16, 0xA8, 0, 0, 0, 0, 2, 2, 0, 190, 1]) = true := by decide +kernel
/-- R195: RESTART answers OK with the device time and changes nothing at its take. -/
theorem test_restart : gives .restart (asking 5 24 [] (linked 5800)) (fun t =>
    lastReply t == some (.ok, [0, 0, 0x16, 0xA8]) && t.link.state == .active) = true := by decide +kernel
/-- R189, as in chapter 10's example, event 9: a resend of a READ_STACK answered gets the cached reply
again, and the stack is not read. -/
theorem test_cached_copy :
    let r : Reply := ⟨60, 14, .ok, [0, 4, 22]⟩
    let s := linked 6500
    gives .readStack (asking 60 14 [] (s.setMgmt { s.mgmt with cache := [⟨60, 14, some r⟩] })) (fun t =>
      t.out.replyQ == [.reply r] && t.mgmt.cache.length == 1) = true := by decide +kernel
/-- R189, as in its event 4: the resend of a COPY_ACTIVE still IN_PROGRESS is discarded. -/
theorem test_cached_inProgress :
    gives .copyActive (asking 60 6 [] (withLongOp .copyActive .copying 150 (linked 5500))) (fun t =>
      t.out.replyQ == [] && t.link.inbound == [] && t.mgmt.tracker.position == 150) = true := by
  decide +kernel

/-! ## Witnesses: for each obligation with hypotheses, states and operands that meet them

Each clause is met at a boundary of its range. -/

/-- A request waiting at a released part with room for a reply and no cache entry for it is taken. -/
theorem takes_asking {s : State} (tag op : Byte) (operands : List Byte) (released : s.inReset = false)
    (room : 0 < s.replyFree) (fresh : cacheHit s.mgmt.cache tag op = none) :
    Takes (asking tag op operands s) tag op operands [] :=
  ⟨released, rfl, room, fresh⟩

/-- Any request is taken by the state `linked`. -/
theorem takes_linked (now : Time) (tag op : Byte) (operands : List Byte) :
    Takes (asking tag op operands (linked now)) tag op operands [] :=
  takes_asking tag op operands rfl (show 0 < (linked 0).replyFree by decide +kernel) rfl

theorem witness_StepRunsFrontCommand :
    ({ linked 0 with pending := [.capture, .frameTaken] } : State).pending = .capture :: [.frameTaken] := rfl

theorem witness_EmptyQueueTakesDueExpiryOrCounts :
    (let s := { linked 0 with inReset := true };
      s.pending = [] ∧ s.inReset = true) ∧
    (let s := (linked 2050).setLink { (linked 2050).link with silenceTimer := some ⟨0, 2050⟩ };
      s.pending = [] ∧ s.inReset = false ∧ dueExpiry s = some .silenceTimerExpiry) ∧
    dueExpiry { linked 3000 with stack := [recordOf 17 4 3 (.point 33) .sending,
        { recordOf 18 3 1 (.point 34) .awaiting with timer := some ⟨1000, 2000⟩ }] } =
      some (.acknowledgementTimerExpiry 18) ∧
    (linked 0).pending = [] ∧ (linked 0).inReset = false ∧ dueExpiry (linked 0) = none ∧
    (let s := cutting 2 (linked 1000);
      s.pending = [] ∧ s.inReset = false ∧ dueExpiry s = none ∧ s.cuts.trunk = some ⟨0xD4, ⟨1000, 2⟩⟩ ∧
      timerDue 1001 (some ⟨1000, 2⟩) = false ∧ timerDue 1001 (some ⟨1000, 1⟩) = true) := by
  decide +kernel

theorem witness_CommandsCompleteAndTheHeldPartIgnoresThem :
    ({ linked 0 with inReset := true } : State).inReset = true ∧
      (∀ c, Instr.capture ≠ .coldReset c) ∧ ∀ straps, Instr.capture ≠ .resetRelease straps := by
  exact ⟨rfl, fun _ => nofun, fun _ => nofun⟩

theorem witness_ResetReleaseStartsTimeAndSamplesStraps :
    ({ linked 0 with inReset := true } : State).inReset = true ∧ (linked 0).inReset = false := ⟨rfl, rfl⟩

theorem witness_RestartReplyCompletionRestartsEveryBlock :
    let r : Reply := ⟨5, 24#8, .ok, [0, 0, 0, 1]⟩
    let s := (linked 9).setOut { Outbound.reset with sending := some (.reply r) }
    s.inReset = false ∧ s.out.sending = some (.reply r) ∧ r.status = .ok ∧ r.op = 24#8 := by
  decide +kernel

/-! ### Lanes -/

theorem witness_StartDelimiterBeginsFrame :
    (withRelay RelayTransmitter.reset (linked 0)).transmitting 2 = true ∧
    (let s := withLane 7 .hunt (linked 0);
      s.inReset = false ∧ s.transmitting 7 = false ∧ s.lanes[7].state = .hunt) ∧
    (let s := withLane 0 .suspended (linked 0);
      s.transmitting 0 = false ∧ s.lanes[0].state = .suspended ∧ s.lanes[0].frame = none) ∧
    (let s := (linked 0).setLane 0 { Lane.coldReset with state := .suspended, frame := some [] };
      s.lanes[0].state = .suspended ∧ s.lanes[0].frame = some []) ∧
    (withLane 0 .receiving (linked 0)).lanes[0].state = .receiving ∧
    (linked 0).lanes[0].state = .disabled := by decide +kernel

theorem witness_NodeFramesReadBack :
    (let rs : List (Reading × BitVec 6) := List.replicate 2 (good 1, 63);
      2 ≤ rs.length ∧ rs.length ≤ 4 ∧ (14 : PointIndex).val + rs.length ≤ 16) ∧
    (let rs : List (Reading × BitVec 6) := List.replicate 4 (good 1, 0);
      2 ≤ rs.length ∧ rs.length ≤ 4 ∧ (12 : PointIndex).val + rs.length ≤ 16) ∧
    (30 : NodeAddr).val ≤ 30 ∧ ¬(31 : NodeAddr).val ≤ 30 := by decide

/-- A span with its agreeing code. -/
def checked (span : List Byte) : List Byte := span ++ codeField (crc16 span)

theorem witness_FrameJudgementOrder :
    (List.replicate 7 (0 : Byte)).length < 8 ∧
    (let span : List Byte := [0x25, 0, 0, 0, 1, 0];
      let code : List Byte := [0, 0];
      8 ≤ (span ++ code).length ∧ code.length = 2 ∧ code ≠ codeField (crc16 span)) ∧
    8 ≤ (checked [0x05, 0, 0, 0, 1, 0]).length ∧
    ((0x05 : Byte).toNat / 32 ≠ 1 ∧ (0x05 : Byte).toNat / 32 ≠ 2) ∧
    ((0x65 : Byte).toNat / 32 ≠ 1 ∧ (0x65 : Byte).toNat / 32 ≠ 2) ∧
    (0x3F : Byte).toNat % 32 = 31 ∧
    ((0x45 : Byte).toNat / 32 = 2 ∧ (0x3F : Byte).toNat / 64 = 0) ∧
    ((0x45 : Byte).toNat / 32 = 2 ∧ 15 < (0x0F : Byte).toNat % 16 + (0x40 : Byte).toNat / 64) ∧
    ((0x25 : Byte).toNat / 32 = 1 ∧ (checked [0x25, 0, 0, 0, 1, 0, 0]).length = 9) ∧
    ((0x45 : Byte).toNat / 32 = 2 ∧
      (checked [0x45, 0x40, 0, 0, 1, 0]).length ≠ 5 + 3 * ((0x40 : Byte).toNat / 64 + 1)) := by
  decide +kernel

/-- A good SAMPLE of node 5. -/
def sampleChars : List Byte := nodeFrameChars 1 5 7 0 [0, 1, 0]

theorem witness_FrameEndInReceivingJudgesTheFrame :
    let full : State := noisy.setLane 6
      { noisy.lanes[6] with fifo := List.replicate 4 (frameOf 1 0 0 [good 0]) }
    let nearly : State := noisy.setLane 6
      { noisy.lanes[6] with errors := 2, fifo := List.replicate 3 (frameOf 1 0 0 [good 0]) }
    (nearly.inReset = false ∧ nearly.lanes[6].state = .receiving ∧ nearly.lanes[6].frame = some [] ∧
      frameCharsAgree .idleGap sampleChars = true ∧
      frameVerdict .idleGap nearly.deviceTime sampleChars = .good ⟨5, 7, 0, [good 1], 5400⟩ ∧
      nearly.lanes[6].fifo.length < 4) ∧
    (full.lanes[6].state = .receiving ∧ full.lanes[6].frame = some [] ∧
      frameVerdict .idleGap full.deviceTime sampleChars = .good ⟨5, 7, 0, [good 1], 5400⟩ ∧
      4 ≤ full.lanes[6].fifo.length) ∧
    frameVerdict .framingFault nearly.deviceTime [] = .lineError ∧
    frameCharsAgree .framingFault [] = true ∧ frameCharsAgree .overLength (List.replicate 18 0) = true ∧
    nearly.lanes[6].errors + 1 ≠ nearly.lanes[6].settings.threshold ∧
    noisy.lanes[6].errors + 1 = noisy.lanes[6].settings.threshold := by decide +kernel

theorem witness_SuspensionDropsFramesAndEndsAfterItsHoldoff :
    let s := noisy.setLane 6
      { noisy.lanes[6] with state := .suspended, holdoffTimer := some ⟨4400, 1000⟩ }
    (s.inReset = false ∧ s.lanes[6].state = .suspended ∧ s.lanes[6].frame = some [] ∧
      frameCharsAgree .idleGap (List.replicate 17 0) = true) ∧
    timerDue s.deviceTime s.lanes[6].holdoffTimer = true ∧ s.lanes[6].frame ≠ none ∧
    (s.setLane 6 { s.lanes[6] with frame := none }).lanes[6].frame = none ∧
    timerDue 5399 s.lanes[6].holdoffTimer = false := by decide +kernel

theorem witness_SetLaneChecksInOrder :
    (∀ operands, Takes (asking 1 15#8 operands (linked 0)) 1 15#8 operands []) ∧
    8 ≤ (8#8).toNat ∧ ((7#8).toNat < 8 ∧ 2 ≤ (2#8).toNat) ∧ ((1#8).toNat < 2 ∧ 5 ≤ (5#8).toNat) ∧
    ((4#8).toNat < 5 ∧ (0#8).toNat = 0 ∧ 15 < (16#8).toNat) ∧
    (1 ≤ (1#8).toNat ∧ (15#8).toNat ≤ 15 ∧ (0#8).toNat = 0) ∧ (1 ≤ (1#8).toNat ∧ 2 ≤ (2#8).toNat) ∧
    (let s := withLane 7 .hunt (linked 0);
      Takes (asking 1 15#8 [7#8, 1#8, 4#8, 15#8, 255#8, 1#8] s) 1 15#8 [7#8, 1#8, 4#8, 15#8, 255#8, 1#8] [] ∧
      s.lanes[7].state ≠ .disabled ∧ LaneSettings.mk .r460800 15 255 .forwardUnmatched ≠ s.lanes[7].settings ∧
      7#8 = BitVec.ofNat 8 (7 : LaneId).val ∧ 1#8 = BitVec.ofNat 8 (enableCode false) ∧
      4#8 = BitVec.ofNat 8 BitRate.r460800.code ∧
      1#8 = BitVec.ofNat 8 UnmatchedOption.forwardUnmatched.code) :=
  ⟨takes_linked 0 1 15#8, by decide, by decide, by decide, by decide, by decide, by decide,
    takes_asking _ _ _ rfl (by decide +kernel) rfl, by decide +kernel, by decide +kernel, by decide,
    by decide, by decide, by decide⟩

theorem witness_SetLaneWritesEnablesAndDisables :
    (∀ operands, Takes (asking 1 15#8 operands (linked 0)) 1 15#8 operands []) ∧
    (linked 0).lanes[7].state = .disabled ∧
    (let s := withLane 7 .hunt (linked 0);
      (∀ operands, Takes (asking 1 15#8 operands s) 1 15#8 operands []) ∧ s.lanes[7].state ≠ .disabled ∧
      LaneSettings.default = s.lanes[7].settings ∧ s.joined 7 = false) ∧
    (let s := (linked 0).setPair 1 ⟨.joined, RelayTransmitter.reset⟩;
      (∀ operands, Takes (asking 1 15#8 operands s) 1 15#8 operands []) ∧ s.lanes[2].state = .disabled ∧
      s.joined 2 = true) ∧
    (let new : LaneSettings := ⟨.r9600, 15, 255, .discard⟩;
      1 ≤ new.threshold ∧ new.threshold ≤ 15 ∧ 1 ≤ new.holdoff ∧ new.holdoff ≤ 255) :=
  ⟨takes_linked 0 1 15#8, by decide +kernel,
    ⟨fun o => takes_asking _ _ o rfl (by decide +kernel) rfl, by decide +kernel⟩,
    ⟨fun o => takes_asking _ _ o rfl (by decide +kernel) rfl, by decide +kernel⟩, by decide⟩

theorem witness_JoinedDisableDisposesRelayFrames :
    let s := withRelay relaysOut (linked 0)
    let operands := u8 3 ++ u8 (enableCode false) ++ u8 BitRate.r19200.code ++ u8 4 ++ u8 10 ++
      u8 UnmatchedOption.discard.code
    Takes (asking 54 15#8 operands s) 54 15#8 operands [] ∧
      s.lanes[3].settings = ⟨.r19200, 4, 10, .discard⟩ ∧ s.lanes[3].state ≠ .disabled ∧ s.joined 3 = true :=
  ⟨takes_asking _ _ _ rfl (by decide +kernel) rfl, by decide +kernel⟩

theorem witness_LaneReadsCounterClearAndPairMode :
    (∀ op operands, Takes (asking 1 op operands (linked 0)) 1 op operands []) ∧
    8 ≤ (8#8).toNat ∧ (7#8).toNat = (7 : LaneId).val ∧ 4 ≤ (4#8).toNat ∧
    ((3#8).toNat < 4 ∧ 2 ≤ (2#8).toNat) ∧
    ((3#8).toNat = (3 : PairId).val ∧ 1#8 = BitVec.ofNat 8 PairMode.joined.code) ∧
    (withLane 6 .hunt (linked 0)).lanes[evenLane 3].state ≠ .disabled ∧
    (let s := withLane 7 .hunt (linked 0);
      s.lanes[evenLane 3].state = .disabled ∧ s.lanes[oddLane 3].state ≠ .disabled) ∧
    (linked 0).lanes[evenLane 3].state = .disabled ∧ (linked 0).lanes[oddLane 3].state = .disabled :=
  ⟨takes_linked 0 1, by decide +kernel⟩

theorem witness_RelayChecksAndQueuesOneFrame :
    (∀ operands, Takes (asking 1 19#8 operands (linked 0)) 1 19#8 operands []) ∧
    ([] : List Byte).length = (0#8).toNat ∧ (List.replicate 33 (0 : Byte)).length = (33#8).toNat ∧
    (List.replicate 32 (0 : Byte)).length = (32#8).toNat ∧ 8 ≤ (8#8).toNat ∧
    ((7#8).toNat < 8 ∧ 31 < (32#8).toNat) ∧ ((31#8).toNat ≤ 31 ∧ (0#8).toNat = 0 ∧ 32 < (33#8).toNat) ∧
    (1 ≤ (32#8).toNat ∧ (32#8).toNat ≤ 32 ∧ 2 ≤ (2#8).toNat) ∧
    ((2#8).toNat = (2 : LaneId).val ∧ (31#8).toNat = (31 : NodeAddr).val ∧ 1#8 = BitVec.ofNat 8 true.toNat) ∧
    (linked 0).transmitting 2 = false ∧
    (let s := (linked 0).setPair 1 ⟨.joined, RelayTransmitter.reset⟩;
      s.transmitting 2 = true ∧ s.lanes[2].state = .disabled) ∧
    (let s := withRelay { relaysOut with queue := List.replicate 4 ⟨1, 1, [0], none⟩ } (linked 0);
      s.transmitting 2 = true ∧ s.lanes[2].state ≠ .disabled ∧ 4 ≤ s.pairs[pairOf 2].relay.queue.length) ∧
    (let s := placeReply filler (withRelay relaysOut (linked 0));
      s.pairs[pairOf 2].relay.queue.length < 4 ∧ s.replyFree = 1) ∧
    (withRelay relaysOut (linked 0)).replyFree = 2 :=
  ⟨takes_linked 0 1 19#8, by decide +kernel⟩

theorem witness_RelayTransmissionRunsStartCompletionGap :
    (let s := withRelay ⟨.idle, none, [frame50]⟩ (linked 0);
      s.inReset = false ∧ s.pairs[1].mode = .joined ∧ s.lanes[evenLane 1].state ≠ .disabled ∧
      s.pairs[1].relay.state = .idle ∧ s.pairs[1].relay.queue = frame50 :: []) ∧
    (let s := withRelay relaysOut (linked 0);
      s.pairs[1].relay.state = .sending ∧ s.pairs[1].relay.sending = some frame50) ∧
    (let s := withRelay ⟨.gap, none, []⟩ (linked 0);
      s.pairs[1].relay.state = .gap ∧ s.pairs[1].relay.sending = none ∧ s.pairs[1].mode = .joined ∧
      s.cuts.relays[1] = none) ∧
    (linked 0).pairs[1].mode = .split ∧ (linked 0).pairs[1].relay.sending = none ∧
    (let s := cutting 9 (withRelay RelayTransmitter.reset (linked 0));
      s.pairs[1].relay.sending = none ∧ s.pairs[1].mode = .joined ∧
      s.cuts.relays[1] = some ⟨0xC3, ⟨1000, 9⟩⟩) := by decide +kernel

/-! ### The Classifier -/

theorem witness_FrameTakenServesTheNextLaneInTurn :
    (let s := { withFrame 2 (frameOf 7 18 4 [good 150]) (linked 0) with servicePointer := 2 };
      s.inReset = false ∧ s.lanes[2].fifo = frameOf 7 18 4 [good 150] :: [] ∧
      ∀ j : LaneId, (j.val + 7 - s.servicePointer.val) % 8 < ((2 : LaneId).val + 7 - s.servicePointer.val) % 8 →
        s.lanes[j].fifo = []) ∧
    ∀ l : LaneId, (linked 0).lanes[l].fifo = [] := by decide +kernel

/-- The key of point 40. -/
def key40 : Key := ⟨2, 7, 4⟩
/-- A state whose active bank holds point 40 alone, its stored entry changed by `f`. -/
def holding40 (f : Stored PointEntry → Stored PointEntry) : State :=
  let s := withPoints [(40, point40)] (linked 0)
  s.setMap (s.map.setActiveBank (s.map.activeBank.setPoint 40 (f (s.activePoint 40))))

theorem witness_LookupAnswersOrMarksTheEntry :
    (∀ row ∈ (linked 0).map.keyIndex, row.key ≠ key40) ∧
    (∀ f, ⟨key40, 40⟩ ∈ (holding40 f).map.keyIndex ∧ keysDistinct (holding40 f).map.keyIndex) ∧
    ((holding40 fun e => { e with mark := true }).activePoint 40).mark = true ∧
    (let e := (holding40 id).activePoint 40;
      e.mark = false ∧ crc16 e.entry.bytes = e.code) ∧
    (let e := (holding40 fun e => { e with code := e.code ^^^ 1 }).activePoint 40;
      e.mark = false ∧ crc16 e.entry.bytes ≠ e.code) :=
  ⟨by decide +kernel,
    fun f => ⟨List.mem_singleton.mpr rfl, List.nodup_singleton _⟩, by decide +kernel⟩

theorem holding40_lookup_marks :
    lookup key40 (holding40 fun e => { e with code := e.code ^^^ 1 }) =
      (faultPoint 40 (holding40 fun e => { e with code := e.code ^^^ 1 }), none) := by
  generalize holder : (holding40 fun e => { e with code := e.code ^^^ 1 }) = s
  have row : keyLookup s.map.keyIndex key40 = some 40 := by rw [← holder]; decide +kernel
  have unmarked : (s.activePoint 40).mark = false := by rw [← holder]; decide +kernel
  have disagrees : pointAgrees (s.activePoint 40) = false := by rw [← holder]; decide +kernel
  unfold lookup
  rw [row]
  simp only [unmarked, disagrees, Bool.false_eq_true, if_false]

theorem witness_UnmatchedSamplesAreCountedAndOffersResolved :
    (lookup key40 (linked 0)).2 = none ∧ key40 = ⟨2, (frameOf 7 0 4 []).node, Fin.ofNat 16 (4 + 0)⟩ ∧
    lookup key40 (linked 0) = (linked 0, none) ∧
    (∃ u, lookup key40 (holding40 fun e => { e with code := e.code ^^^ 1 }) = (u, none) ∧
      (u.activePoint 40).mark = true) ∧
    (linked 0).lanes[2].settings.unmatched = .discard ∧
    ({ LaneSettings.default with unmatched := .forwardUnmatched } : LaneSettings).unmatched =
      .forwardUnmatched ∧
    State.reset.link.state ≠ .active ∧ (linked 0).link.state = .active ∧
    (List.replicate 31 filler).length < 32 ∧ 32 ≤ (List.replicate 32 filler).length :=
  ⟨by decide +kernel, by decide, rfl, ⟨_, holding40_lookup_marks, by decide +kernel⟩, by decide +kernel, rfl,
    by decide, rfl, by decide, by decide⟩

theorem witness_FreshSampleJudgesByWindowAndVotes :
    let e := point40
    let out := { point40 with sense := .outsideNormal }
    (¬(e.lower.toInt ≤ (101 : Value).toInt ∧ (101 : Value).toInt ≤ e.upper.toInt)) ∧
    (e.lower.toInt ≤ (100 : Value).toInt ∧ (100 : Value).toInt ≤ e.upper.toInt) ∧
    e.qualify ≤ 2 + 1 ∧ 1 + 1 < e.qualify ∧
    (e.lower.toInt + e.hysteresis ≤ (90 : Value).toInt ∧ (90 : Value).toInt ≤ e.upper.toInt - e.hysteresis) ∧
    ¬(91 : Value).toInt ≤ e.upper.toInt - e.hysteresis ∧ out.sense ≠ .insideNormal ∧
    out.upper.toInt + out.hysteresis < (111 : Value).toInt ∧
    ¬((110 : Value).toInt < out.lower.toInt - out.hysteresis ∨
      out.upper.toInt + out.hysteresis < (110 : Value).toInt) := by decide +kernel

theorem witness_MatchedSampleUpdatesItsRecord :
    beforeFrame9.records[40].lastSequence = some (frameOf 7 16 4 [good 1]).sequence ∧
    beforeFrame9.records[40].lastSequence ≠ some (frameOf 7 18 4 [good 1]).sequence ∧
    point40 = (beforeFrame9.activePoint 40).entry := by decide +kernel

theorem beforeFrame9_lookup : lookup key40 beforeFrame9 = (beforeFrame9, some (40, point40)) := by
  have row : keyLookup beforeFrame9.map.keyIndex key40 = some 40 := by decide +kernel
  have unmarked : (beforeFrame9.activePoint 40).mark = false := by decide +kernel
  have agrees : pointAgrees (beforeFrame9.activePoint 40) = true := by decide +kernel
  have entry : (beforeFrame9.activePoint 40).entry = point40 := by decide +kernel
  unfold lookup
  rw [row]
  simp only [unmarked, agrees, entry, Bool.false_eq_true, if_false, if_true]

/-- The state `reporting` with this stored entry at group 15. -/
def reportingWith (e : Stored GroupEntry) : State :=
  reporting.setMap (reporting.map.setActiveBank (reporting.map.activeBank.setGroup 15 e))

theorem witness_SampleTakenRaisesForwardsAndTriggers :
    (beforeFrame9.link.state = .active ∧ beforeFrame9.out.dataQ.length < 32 ∧ point40.policy = .deadband ∧
      beforeFrame9.records[40].lastForwarded = some 120 ∧
      (point40.deadband : Int) ≤ |(145 : Value).toInt - (120 : Value).toInt| ∧
      ¬(point40.deadband : Int) ≤ |(144 : Value).toInt - (120 : Value).toInt|) ∧
    State.reset.link.state ≠ .active ∧ 32 ≤ (List.replicate 32 filler).length ∧
    (let f := frameOf 7 18 3 [good 7, good 150];
      (⟨2, f.node, Fin.ofNat 16 (f.startIndex.val + 1)⟩ : Key) = key40 ∧
      lookup key40 beforeFrame9 = (beforeFrame9, some (40, point40)) ∧
      beforeFrame9.records[40].lastSequence ≠ some f.sequence ∧
      (let u := conditionStage point40 f.arrival (staleStart beforeFrame9 (beforeFrame9.activePoint 40))
          (good 150) (sequenceStage f.sequence beforeFrame9.records[40]);
        u.condition ≠ beforeFrame9.records[40].condition ∧ u.condition = .abnormal ∧
          point40.raiseOn.abnormal) ∧
      (conditionStage point40 f.arrival (staleStart beforeFrame9 (beforeFrame9.activePoint 40)) (good 100)
        (sequenceStage f.sequence beforeFrame9.records[40])).condition =
          beforeFrame9.records[40].condition) ∧
    (∀ e, (reportingWith e).activeGroup 15 = e) ∧
    (let e : GroupEntry := ⟨.onSample, 38, 3, 10, 2⟩;
      e.start.val + e.triggerMember = (40 : PointId).val ∧ crc16 e.bytes ≠ e.checkCode ^^^ 1) :=
  ⟨by decide +kernel, by decide, by decide,
    ⟨by decide, beforeFrame9_lookup, by decide +kernel, by decide +kernel, by decide +kernel⟩, fun _ => rfl,
    by decide +kernel⟩

theorem witness_StaleExpiryMakesThePointStale :
    let s := { beforeFrame9 with deviceTime := 4000 }.setRecord 40
      { beforeFrame9.records[40] with timer := some ⟨1000, 3000⟩ }
    s.inReset = false ∧ timerDue 3999 s.records[40].timer = false ∧
      timerDue s.deviceTime s.records[40].timer = true ∧ s.records[40].condition ≠ .stale ∧
      (s.activePoint 40).entry.raiseOn.stale = false ∧
      (RaiseOn.mk false false true false).stale = true := by decide +kernel

/-! ### Slots -/

/-- A DORMANT part whose slot 5 is UNMASKED at level 1 and empty. -/
def asleep : State :=
  let s := (linked 0).setSlot 5 (openSlot 1 [])
  s.setLink { s.link with state := .dormant }

theorem witness_RaiseKeepsAppendsOrOverflowsAndWakes :
    (Cause.point 20 ∈ slot7.slots[7].causes ∧ Cause.point 99 ∉ slot7.slots[7].causes ∧
      8 ≤ slot7.slots[7].causes.length) ∧
    (let s := slot7.setSlot 7 { slot7.slots[7] with causes := slot7.slots[7].causes.take 7 };
      Cause.point 99 ∉ s.slots[7].causes ∧ s.slots[7].causes.length < 8 ∧ s.link.state ≠ .dormant) ∧
    (asleep.link.state = .dormant ∧ asleep.out.sending = none) ∧
    (let u := asleep.setSlot 5 (asleep.slots[5].raise (.point 80));
      u.selectable 5 ∧ ∀ j, u.selectable j → u.slots[5].level ≤ u.slots[j].level) ∧
    ∀ j, ¬(asleep.setSlot 4 (asleep.slots[4].raise (.point 80))).selectable j := by
  refine ⟨by decide +kernel, by decide +kernel, by decide +kernel, ⟨?_, fun j h => ?_⟩,
    (bestSlot_none _).mp (by decide +kernel)⟩
  · exact (slotSelectable_iff _ 5).mp (by decide +kernel)
  · have only : ∀ j : SlotId, slotSelectable (asleep.setSlot 5 (asleep.slots[5].raise (.point 80))).stack j
        (asleep.setSlot 5 (asleep.slots[5].raise (.point 80))).slots[j] = true → j = 5 := by decide +kernel
    rw [only j ((slotSelectable_iff _ j).mpr h)]
    exact le_refl _

theorem witness_SlotWritesReplaceClearAndRoute :
    (∀ op operands, Takes (asking 1 op operands (linked 0)) 1 op operands []) ∧
    32 ≤ (32#8).toNat ∧ ((31#8).toNat < 32 ∧ 4 ≤ (4#8).toNat) ∧ ((3#8).toNat < 4 ∧ 2 ≤ (2#8).toNat) ∧
    ((31#8).toNat = (31 : SlotId).val ∧ (3#8).toNat = (3 : Level).val ∧ 1#8 = BitVec.ofNat 8 Mask.unmasked.code) ∧
    12 ≤ (12#8).toNat ∧ ((11#8).toNat < 12 ∧ 32 ≤ (254#8).toNat ∧ (254#8).toNat ≠ 255) ∧
    (11#8).toNat = DeviceCause.restarted.code.val :=
  ⟨takes_linked 0 1, by decide⟩

theorem witness_SlotAndStackReadsShowTheState :
    (∀ op operands, Takes (asking 1 op operands (linked 0)) 1 op operands []) ∧
    32 ≤ (32#8).toNat ∧ (31#8).toNat = (31 : SlotId).val :=
  ⟨takes_linked 0 1, by decide⟩

/-! ### Alerts -/

theorem witness_CapturePushesTheChosenSlot :
    (linked 0).inReset = false ∧ (linked 0).selection = none ∧
      ({ linked 1520 with stack := nested.take 2, alertCounter := 19 }.setSlot 0
        (openSlot 0 [.device .mapIntegrity])).selection = some 0 := by decide +kernel

theorem nested_stackNested : stackNested nested := by unfold stackNested; decide +kernel

theorem witness_AcknowledgementExpiryRepeatsOwesOrLapses :
    let r := recordOf 18 9 1 (.point 51) .awaiting
    let s := { linked 3040 with stack := nested }
    (∀ x ∈ s.stack, x.number = 99 → x.state = .awaiting → timerDue s.deviceTime x.timer = false) ∧
    (s.stack = nested.take 1 ++ r :: nested.drop 2 ∧ stackNested s.stack ∧ r.number = 18 ∧
      r.state = .awaiting ∧ timerDue s.deviceTime r.timer = true) ∧
    (r.repeatCount < s.link.params.retryLimit ∧
      s.stack.countP (fun x => x.state == .repeatOwed) < 8 - s.out.alertQ.length) ∧
    8 - (List.replicate 8 filler).length ≤ s.stack.countP (fun x => x.state == .repeatOwed) ∧
    (({ TrunkParams.default with retryLimit := 0 } : TrunkParams).retryLimit ≤ r.repeatCount ∧
      (List.replicate 7 filler).length < 8 ∧ 8 ≤ (List.replicate 8 filler).length) ∧
    (let owed := recordOf 18 9 1 (.point 51) .repeatOwed;
      let t := { linked 3040 with stack := [recordOf 17 4 3 (.point 33) .repeatOwed, owed] };
      t.inReset = false ∧ t.stack = [recordOf 17 4 3 (.point 33) .repeatOwed] ++ owed :: [] ∧
        stackNested t.stack ∧ owed.state = .repeatOwed ∧ t.out.alertQ.length < 8) ∧
    ∀ x ∈ (linked 0).stack, x.state ≠ .repeatOwed :=
  ⟨by decide +kernel, ⟨by decide +kernel, nested_stackNested, by decide +kernel⟩, by decide +kernel,
    by decide +kernel, by decide +kernel,
    ⟨rfl, rfl, by unfold stackNested; decide +kernel, rfl, by decide +kernel⟩, by decide +kernel⟩

theorem witness_AlertDonePopsTheTopAlone :
    let s := { linked 0 with stack := nested }
    (∀ operands, Takes (asking 1 13#8 operands s) 1 13#8 operands []) ∧ (linked 0).stack = [] ∧
    s.stack = nested.take 2 ++ [recordOf 19 0 0 (.device .mapIntegrity) .awaiting] ∧
    (∃ r ∈ nested.take 2, r.number = 17) ∧ ∀ r ∈ nested.take 2, r.number ≠ 20 :=
  ⟨fun o => takes_asking _ _ o rfl (by decide +kernel) rfl, rfl, by decide +kernel, by decide +kernel,
    by decide +kernel⟩

/-! ### The map -/

theorem witness_WritePointValidatesThenStoresInTheShadow :
    (∀ operands, Takes (asking 1 2#8 operands (linked 0)) 1 2#8 operands []) ∧
    (linked 0).mgmt.tracker.operation = .none ∧
    (let b := List.replicate 19 (0 : Byte);
      b.length = 19 ∧ byteAt b 0 = 0#8) ∧
    (let b := point40.bytes.set 1 8;
      b.length = 19 ∧ byteAt b 0 ≠ 0#8 ∧ pointRefusal b = some 2) ∧
    (let b := point40.bytes.set 18 32;
      b.length = 19 ∧ byteAt b 0 ≠ 0#8 ∧ pointRefusal b = some 14) ∧
    (let b := point40.bytes.set 0 255;
      b.length = 19 ∧ byteAt b 0 ≠ 0#8 ∧ pointRefusal b = none) :=
  ⟨takes_linked 0 1 2#8, by decide +kernel⟩

theorem witness_WriteGroupAndClearShadowStoreInTheShadow :
    (∀ op operands, Takes (asking 1 op operands (linked 0)) 1 op operands []) ∧
    (linked 0).mgmt.tracker.operation = .none ∧ 16 ≤ (16#8).toNat ∧ (15#8).toNat = (15 : GroupId).val ∧
    byteAt (List.replicate 6 (0 : Byte)) 0 = 0#8 ∧
    groupRefusal [4, 0, 1, 0, 1, 0] = some 2 ∧ groupRefusal [1, 249, 8, 0, 1, 0] = some 4 ∧
    groupRefusal [1, 248, 8, 0x8C, 0xA0, 7] = none :=
  ⟨takes_linked 0 1, by decide +kernel⟩

/-- A part that is sending this message. -/
def sendingNow (m : Message) (s : State) : State := s.setOut { s.out with sending := some m }

theorem witness_EntriesReadBackAndMessagesDriveTheirCharacters :
    (∀ m, (sendingNow m (linked 0)).out.sending = some m) ∧ (linked 0).out.sending = none ∧
      (linked 0).cuts.trunk = none ∧ (cutting 9 (linked 0)).out.sending = none ∧
      (cutting 9 (linked 0)).cuts.trunk = some ⟨0xD4, ⟨1000, 9⟩⟩ ∧
      PointEntry.invalid.legal ∧ point40.legal ∧
      (⟨.onSample, 248, 8, 36000, 7⟩ : GroupEntry).legal ∧ GroupEntry.groupOff.legal ∧
      (let p : TrunkParams := ⟨255, 60, 15, 600, 7⟩;
        p.silenceTimeout ≤ 255 ∧ 1 ≤ p.wakeInterval ∧ p.wakeInterval ≤ 60 ∧ 1 ≤ p.wakeLimit ∧
          p.wakeLimit ≤ 15 ∧ 1 ≤ p.ackTimeout ∧ p.ackTimeout ≤ 600 ∧ p.retryLimit ≤ 7) := by
  refine ⟨fun _ => rfl, rfl, rfl, rfl, rfl, ?_⟩
  unfold PointEntry.legal GroupEntry.legal
  decide +kernel

theorem witness_MapAndConditionReadsShowTheState :
    (∀ op operands, Takes (asking 1 op operands (linked 0)) 1 op operands []) ∧
    (linked 0).mgmt.tracker.operation = .none ∧
    (BankName.b = (linked 0).map.active.other ∧ 1#8 = BitVec.ofNat 8 Role.shadow.code) ∧
    (255#8).toNat = (255 : PointId).val ∧ (15#8).toNat = (15 : GroupId).val ∧ 2 ≤ (2#8).toNat ∧
    16 ≤ (16#8).toNat ∧ (15#8).toNat < 16 ∧ 1#8 = BitVec.ofNat 8 true.toNat ∧ 0#8 = BitVec.ofNat 8 false.toNat :=
  ⟨takes_linked 0 1, by decide +kernel⟩

theorem witness_LongMapOperationsStartAndKeepTheMapBusy :
    (∀ op operands, Takes (asking 1 op operands (linked 0)) 1 op operands []) ∧
    (linked 0).mgmt.tracker.operation = .none ∧ 0#8 ++ 0#8 = (linked 0).map.generation ∧
    0#8 ++ 1#8 ≠ (linked 0).map.generation ∧
    (let s := withLongOp .commit .checking 0 (linked 0);
      Takes (asking 1 Operation.clearShadow.code [] s) 1 Operation.clearShadow.code [] [] ∧
      Operation.clearShadow ∈ mapOperations ∧ ([] : List Byte).length = Operation.clearShadow.operandCount [] ∧
      s.mgmt.tracker.operation ≠ .none) :=
  ⟨takes_linked 0 1, by decide +kernel, by decide +kernel, by decide +kernel,
    takes_asking _ _ _ rfl (by decide +kernel) (by decide +kernel), by decide, by decide, by decide +kernel⟩

theorem witness_CopyEntryCopiesOneEntryAndCompletes :
    (let s := withLongOp .copyActive .copying 255 (linked 0);
      s.inReset = false ∧ s.mgmt.tracker.operation = .copyActive ∧
        s.mgmt.tracker.position = (255 : PointId).val ∧ (255 : PointId).val + 1 < 272) ∧
    (let s := withLongOp .copyActive .copying 256 (linked 0);
      s.mgmt.tracker.position = 256 + (0 : GroupId).val) ∧
    (let s := withLongOp .copyActive .copying 271 (linked 0);
      s.mgmt.tracker.position = 256 + (15 : GroupId).val ∧ 256 + (15 : GroupId).val + 1 = 272) := by
  decide +kernel

/-- A COMMIT at entry `n` whose shadow bank holds at point 40 this stored entry. -/
def checkingAt (n : Nat) (e : Stored PointEntry) (index : List KeyRow) : State :=
  let s := withLongOp .commit .checking n (linked 0)
  s.setMap { s.map.setShadowBank (s.map.shadowBank.setPoint 40 e) with partialIndex := index }

theorem witness_CheckPassExaminesOneEntry :
    let bad : Stored PointEntry := ⟨point40, point40.checkCode ^^^ 1, false⟩
    (let s := checkingAt 40 bad [];
      s.inReset = false ∧ s.mgmt.tracker.operation = .commit ∧ s.mgmt.tracker.phase = .checking ∧
        s.mgmt.tracker.position = (40 : PointId).val ∧
        crc16 s.map.shadowBank.points[40].entry.bytes ≠ s.map.shadowBank.points[40].code) ∧
    (let s := checkingAt 40 point40.stored [⟨key40, 12⟩];
      let e := s.map.shadowBank.points[40];
      crc16 e.entry.bytes = e.code ∧ e.entry.valid = true ∧ ⟨e.entry.key, 12⟩ ∈ s.map.partialIndex ∧
        (s.map.partialIndex.map (fun row => row.key)).Nodup) ∧
    (∀ row ∈ (checkingAt 40 point40.stored []).map.partialIndex, row.key ≠ key40) ∧
    (checkingAt 255 bad []).map.shadowBank.points[255].entry.valid = false ∧
    (let s := checkingAt 271 bad [];
      s.mgmt.tracker.position = 256 + (15 : GroupId).val ∧
        crc16 s.map.shadowBank.groups[15].entry.bytes = s.map.shadowBank.groups[15].code) := by
  decide +kernel

theorem witness_CommitCompletionExchangesAndReconciles :
    let s := withLongOp .commit .ready 272 (linked 0)
    s.inReset = false ∧ s.mgmt.tracker.operation = .commit ∧ s.mgmt.tracker.phase = .ready := by
  decide +kernel

/-! ### Reports -/

theorem witness_PeriodExpiryOffersAReportAndRestarts :
    (reporting.inReset = false ∧ timerDue 19999 reporting.periodTimers[4] = false ∧
      timerDue reporting.deviceTime reporting.periodTimers[4] = true) ∧
    (let e := reporting.activeGroup 4;
      e.mark = false ∧ crc16 e.entry.bytes = e.code ∧ e.entry.trigger = .periodic) ∧
    (let e := (reporting.setMap (reporting.map.setActiveBank (reporting.map.activeBank.setGroup 4
        ⟨GroupEntry.groupOff, GroupEntry.groupOff.checkCode ^^^ 1, false⟩))).activeGroup 4;
      e.mark = false ∧ crc16 e.entry.bytes ≠ e.code) := by decide +kernel

theorem witness_TriggerGroupTakesItsStepsInOrder :
    (∀ e operands, Takes (asking 1 20#8 operands (reportingWith e)) 1 20#8 operands []) ∧
    (∀ e, (reportingWith e).activeGroup 15 = e) ∧ 16 ≤ (16#8).toNat ∧ (15#8).toNat = (15 : GroupId).val ∧
    ({ GroupEntry.groupOff.stored with mark := true } : Stored GroupEntry).mark = true ∧
    (let e : Stored GroupEntry := ⟨GroupEntry.groupOff, GroupEntry.groupOff.checkCode ^^^ 1, false⟩;
      e.mark = false ∧ crc16 e.entry.bytes ≠ e.code) ∧
    (let e := GroupEntry.groupOff.stored;
      e.mark = false ∧ crc16 e.entry.bytes = e.code ∧ e.entry.trigger = .off) ∧
    (let e := GroupEntry.stored ⟨.requestOnly, 100, 3, 10, 0⟩;
      e.mark = false ∧ crc16 e.entry.bytes = e.code ∧ e.entry.trigger ≠ .off) ∧
    32 ≤ (List.replicate 32 filler).length ∧ reporting.out.dataQ.length < 32 :=
  ⟨fun _ o => takes_asking _ _ o rfl (show 0 < reporting.replyFree by decide +kernel) rfl, fun _ => rfl, by decide,
    by decide, rfl,
    by decide +kernel, by decide +kernel, by decide +kernel, by decide, by decide +kernel⟩

/-! ### The trunk -/

theorem witness_InboundMessagesAreJudgedAtTheirEnd :
    (linked 0).inReset = false ∧ (linked 0).link.receiver = none ∧
    (receiving (linked 0)).link.receiver = some [] ∧
    (messageCharsAgree .idleGap [2, 241] = true ∧ 240 < (241 : Byte).toNat) ∧
    (messageCharsAgree .framingFault [2, 240] = true ∧ (240 : Byte).toNat ≤ 240) ∧
    (MessageEndCause.framingFault ≠ .lastCharacter) ∧ messageCharsAgree .idleGap [] = true ∧
    (List.replicate 240 (0 : Byte)).length ≤ 240 ∧
    ([0, 0] ≠ codeField (crc16 [2, 0]) ∧ [(0 : Byte), 0].length = 2) ∧
    ((4#8) ≠ 1#8 ∧ (4#8) ≠ 2#8 ∧ (4#8) ≠ 3#8) := by decide +kernel

theorem witness_AttachOpensASessionAfterTeardown :
    (let s := receiving State.reset;
      s.inReset = false ∧ s.link.receiver = some [] ∧ s.link.state = .offline) ∧
    (let s := receiving (linked 0);
      s.link.receiver = some [] ∧ s.link.state ≠ .offline) ∧
    (List.replicate 240 (0 : Byte)).length ≤ 240 := by decide +kernel

theorem witness_RequestAndKeepaliveActByLinkState :
    (let s := receiving State.reset;
      s.inReset = false ∧ s.link.receiver = some [] ∧ s.link.state = .offline) ∧
    (let s := receiving (linked 0);
      s.link.receiver = some [] ∧ s.link.state ≠ .offline ∧ s.link.inbound.length < 4) ∧
    4 ≤ (List.replicate 4 [(0 : Byte)]).length ∧ (List.replicate 240 (0 : Byte)).length ≤ 240 := by
  decide +kernel

theorem witness_SilenceExpiryTearsTheSessionDown :
    let s := (linked 2050).setLink { (linked 2050).link with silenceTimer := some ⟨0, 2050⟩ }
    s.inReset = false ∧ timerDue 2049 s.link.silenceTimer = false ∧
      timerDue s.deviceTime s.link.silenceTimer = true ∧ s.out.sending = none ∧
      ({ s.out with sending := some filler } : Outbound).sending = some filler := by decide +kernel

/-- A WAKING part whose wake timer is due, after this many WAKEs. -/
def wakingAt (count : Nat) : State :=
  (linked 5000).setLink
    { (linked 5000).link with state := .waking, wakeTimer := some ⟨0, 5000⟩, wakeCount := count }

theorem witness_WakeExpiryOffersAWakeOrTearsDown :
    (wakingAt 5).inReset = false ∧ timerDue 4999 (wakingAt 5).link.wakeTimer = false ∧
    timerDue (wakingAt 5).deviceTime (wakingAt 5).link.wakeTimer = true ∧
    (wakingAt 6).link.params.wakeLimit ≤ (wakingAt 6).link.wakeCount ∧
    (wakingAt 5).link.wakeCount < (wakingAt 5).link.params.wakeLimit ∧ (wakingAt 5).out.sending = none ∧
    ∀ k, ¬(wakingAt 5).selectable k :=
  ⟨rfl, by decide +kernel, by decide +kernel, by decide, by decide, rfl, (bestSlot_none _).mp (by decide +kernel)⟩

theorem witness_TrunkRequestsAreCheckedAndAnswered :
    (∀ op operands, Takes (asking 1 op operands (linked 0)) 1 op operands []) ∧
    ((0#8).toNat = 0 ∧ 60 < (61#8).toNat) ∧ 15 < (16#8).toNat ∧ 600 < (2#8).toNat * 256 + (89#8).toNat ∧
    7 < (8#8).toNat ∧ ((linked 0).stack = [] ∧ (linked 0).out.alertQ = []) ∧ nested ≠ [] :=
  ⟨takes_linked 0 1, by decide +kernel⟩

theorem witness_ReadDeviceShowsEveryGroup :
    Takes (asking 1 23#8 [] (linked 0)) 1 23#8 [] [] := takes_linked 0 1 23#8 []

/-! ### Transmission and management -/

theorem witness_TransmissionStartsByClassPriority :
    let r := recordOf 30 2 1 (.point 90) .queued
    let alert : AlertMessage := ⟨30, 2, 1, 0, 1000, false, [.point 90]⟩
    let wake : Message := .wake ⟨1, 4, 0⟩
    (linked 0).inReset = false ∧ (linked 0).out.sending = none ∧ (linked 0).link.state = .active ∧
    (Outbound.reset.alertQ = [] ∧ Outbound.reset.replyQ = [] ∧ Outbound.reset.dataQ = []) ∧
    ({ Outbound.reset with sending := some filler } : Outbound).sending = some filler ∧
    (({ Outbound.reset with alertQ := [alertOf r] } : Outbound).alertQ = .alert alert :: []) ∧
    ((Message.lapse ⟨1, 1, 1, 0, 0⟩).kind ≠ 0x87 ∧ (Message.reply ⟨1, 14, .ok, []⟩).kind ≠ 0x87 ∧
      filler.kind ≠ 0x87) ∧
    State.reset.link.state = .offline ∧ asleep.link.state = .dormant ∧
    (wakingAt 1).link.state = .waking ∧ (wakingAt 1).out.wakeOffer = none ∧ wake.kind = 0x89 ∧
    ({ Outbound.reset with wakeOffer := some wake } : Outbound).wakeOffer = some wake := by decide +kernel

theorem witness_TransmissionCompletionReportsByKindAndEntersDormant :
    let dormancy : Reply := ⟨120, 22#8, .ok, []⟩
    (linked 0).inReset = false ∧ (linked 0).out.sending = none ∧
    (sendingNow (alertOf (recordOf 17 4 3 (.point 33) .sending)) (linked 0)).out.sending =
      some (.alert ⟨17, 4, 3, 0, 1000, false, [.point 33]⟩) ∧
    (sendingNow (.attachReply ⟨0, .a, .powerOn, 0, TrunkParams.default⟩) (linked 0)).out.sending =
      some (.attachReply ⟨0, .a, .powerOn, 0, TrunkParams.default⟩) ∧
    ((⟨1, 14#8, .ok, []⟩ : Reply).op ≠ 22#8 ∧ (⟨1, 14#8, .ok, []⟩ : Reply).op ≠ 24#8) ∧
    (⟨1, 22#8, .alertsOutstanding, []⟩ : Reply).status ≠ .ok ∧
    (let s := sendingNow (.reply dormancy) (linked 0);
      s.out.sending = some (.reply dormancy) ∧ dormancy.status = .ok ∧ dormancy.op = 22#8 ∧
        s.link.state = .active ∧ s.stack = [] ∧ s.out.alertQ = [] ∧ s.out.replyQ = [] ∧ s.reservations = 0 ∧
        s.link.inbound = []) ∧
    (let s := sendingNow (.reply dormancy) (asking 1 14 [] (linked 0));
      ¬s.link.inbound = []) ∧
    (∀ k, ¬(sendingNow (.reply dormancy) (linked 0)).selectable k) ∧
    (let s := sendingNow (.reply dormancy) ((linked 0).setSlot 5 (openSlot 1 [.point 80]));
      s.link.state = .active ∧ s.out.replyQ = [] ∧ s.reservations = 0 ∧ s.link.inbound = [] ∧
        s.selectable 5 ∧ ∀ j, s.selectable j → s.slots[(5 : SlotId)].level ≤ s.slots[j].level) :=
  ⟨rfl, rfl, rfl, rfl, by decide, by decide, by decide +kernel, by decide +kernel,
    (bestSlot_none _).mp (by decide +kernel), rfl, rfl, by decide +kernel, rfl,
    (slotSelectable_iff _ 5).mp (by decide +kernel), fun j sel => by
      have only : ∀ j, slotSelectable [] j
          ((linked 0).setSlot 5 (openSlot 1 [.point 80])).slots[j] = true → j = 5 := by decide +kernel
      rw [only j ((slotSelectable_iff _ j).mpr sel)]⟩

theorem witness_CachedRequestsAreNotExecuted :
    let r : Reply := ⟨60, 14#8, .ok, [0, 4, 22]⟩
    let s := (asking 60 14#8 [] (linked 0)).setMgmt { Management.reset with cache := [⟨60, 14#8, some r⟩] }
    (s.inReset = false ∧ s.link.inbound = (60 :: Operation.readStack.code :: []) :: [] ∧ 0 < s.replyFree ∧
      s.mgmt.cache = [] ++ ⟨60, 14#8, some r⟩ :: []) ∧
    (asking 60 14#8 [] ((linked 0).setOut
      { Outbound.reset with replyQ := List.replicate 4 filler })).replyFree = 0 ∧
    (⟨60, 7#8, none⟩ : CacheEntry).reply = none ∧
    (let cache : List CacheEntry := List.replicate 7 ⟨1, 1, none⟩;
      cache.length < 8 ∧ (∀ e ∈ cache, e.tag ≠ 60) ∧ ∃ e ∈ cache, e.tag = 1) ∧
    (let cache : List CacheEntry := List.replicate 8 ⟨1, 1, none⟩;
      8 ≤ cache.length ∧ cache = ⟨1, 1, none⟩ :: List.replicate 7 ⟨1, 1, none⟩) := by decide +kernel

theorem witness_MalformedRequestsAreRefusedOrCounted :
    (∀ op operands, Takes (asking 1 op operands (linked 0)) 1 op operands []) ∧
    ((0#8).toNat = 0 ∧ 25 ≤ (25#8).toNat) ∧
    ([0#8, 0#8] : List Byte).length ≠ Operation.readLane.operandCount [0#8, 0#8] ∧
    ([0#8, 0#8, 0#8] : List Byte).length ≠ Operation.relay.operandCount [0#8, 0#8, 0#8] ∧
    (let s := (linked 0).setLink { (linked 0).link with inbound := [[9]] };
      s.inReset = false ∧ s.link.inbound = [9] :: [] ∧ [(9 : Byte)].length < 2 ∧ 0 < s.replyFree) :=
  ⟨takes_linked 0 1, by decide +kernel⟩

/-! ### The laws every step keeps -/

/-- Pair 1 working, point 40 heard and NORMAL, record 17 queued, a frame waiting, and a command in front. -/
def lively : State :=
  let r := recordOf 17 4 3 (.point 33) .queued
  let s := beforeFrame9.setRecord 40 { beforeFrame9.records[40] with timer := some ⟨0, 3000⟩ }
  { s with
    pending := [.frameTaken]
    stack := [r]
    alertCounter := 18
    out := { s.out with alertQ := [alertOf r] } }

theorem lively_steps : (match step lively with | .next _ => true | _ => false) = true := by decide +kernel

theorem witness_EveryStepKeepsCauseSetsLegal : lively.slotsLegal := by
  unfold State.slotsLegal Slot.legal; decide +kernel
theorem witness_EveryStepKeepsTheStackNested : lively.stackLegal := by
  unfold State.stackLegal stackNested; decide +kernel
theorem witness_EveryStepKeepsLaneCountersBalanced : lively.lanesBalanced := by
  unfold State.lanesBalanced LaneCounters.balanced; decide +kernel
theorem witness_EveryStepKeepsTheMapAndVotesInRange :
    (linked 0).mapLegal ∧ (match step (linked 0) with | .next _ => true | _ => false) = true := by
  have points (p : PointId) : Bank.empty.points[p] = PointEntry.invalid.stored := Vector.getElem_replicate _
  have groups (g : GroupId) : Bank.empty.groups[g] = GroupEntry.groupOff.stored := Vector.getElem_replicate _
  have legal : Bank.empty.legal :=
    ⟨fun p => by rw [points p]; unfold PointEntry.legal; decide +kernel,
      fun g => by rw [groups g]; unfold GroupEntry.legal; decide +kernel⟩
  refine ⟨⟨legal, legal, ⟨fun p => ?_, fun g => ?_⟩, fun p => ?_⟩, by decide +kernel⟩
  · exact congrArg Stored.mark (points p)
  · exact congrArg Stored.mark (groups g)
  · have : (linked 0).records[p] = RuntimeRecord.cleared := Vector.getElem_replicate _
    rw [this]; unfold RuntimeRecord.legal; decide
theorem witness_EveryStepKeepsQueuesWithinTheSession : lively.sessionLegal := by
  unfold State.sessionLegal State.queuesLegal State.linkLegal; decide +kernel
theorem witness_EveryStepKeepsAlertsMatchedToTheStack : lively.stackLegal ∧ lively.alertsLegal := by
  refine ⟨witness_EveryStepKeepsTheStackNested, fun a h => ?_, by decide +kernel, rfl⟩
  have : Message.alert a = alertOf (recordOf 17 4 3 (.point 33) .queued) := List.mem_singleton.mp h
  cases this
  exact ⟨_, List.mem_singleton.mpr rfl, rfl, rfl⟩
theorem witness_EveryStepKeepsUnheardPointsUnknown : lively.indexLegal ∧ lively.hearingLegal := by
  unfold State.indexLegal State.hearingLegal keysDistinct; decide +kernel

end Sys2Proof.Tests
end

section
/-! PROOF. A lookup resolves its key in the key index and answers, refuses or marks the entry it finds
(R13, R14). -/

namespace Sys2Proof.Machine

/-! ## The key index (R9) -/

theorem keyLookup_absent {index : List KeyRow} {key : Key} (absent : ∀ row ∈ index, row.key ≠ key) :
    keyLookup index key = none := by
  have unmatched : index.find? (fun row => row.key == key) = none :=
    List.find?_eq_none.mpr fun row h => by simpa using absent row h
  rw [keyLookup, unmatched, Option.map_none]

/-- Among distinct keys the first row of a key is its only row, so the search finds it wherever it stands. -/
theorem keyLookup_present {index : List KeyRow} {key : Key} {p : PointId} (row : ⟨key, p⟩ ∈ index)
    (distinct : keysDistinct index) : keyLookup index key = some p := by
  induction index with
  | nil => cases row
  | cons first others ih =>
    obtain ⟨firstOnly, othersDistinct⟩ := List.nodup_cons.mp distinct
    rcases List.mem_cons.mp row with rfl | later
    · simp [keyLookup]
    · have skipped : first.key ≠ key := fun same =>
        firstOnly (List.mem_map.mpr ⟨_, later, same.symm⟩)
      have found := ih later othersDistinct
      simpa [keyLookup, skipped] using found

/-! ## The outcomes of a lookup (R13) -/

theorem pointAgrees_iff (e : Stored PointEntry) : pointAgrees e = true ↔ crc16 e.entry.bytes = e.code := by
  simp [pointAgrees, PointEntry.checkCode]

variable {s : State} {key : Key} {p : PointId}

theorem lookup_absent (absent : keyLookup s.map.keyIndex key = none) : lookup key s = (s, none) := by
  simp only [lookup, absent]

theorem lookup_marked (row : keyLookup s.map.keyIndex key = some p) (mark : (s.activePoint p).mark = true) :
    lookup key s = (s, none) := by
  simp only [lookup, row, mark, if_true]

theorem lookup_agrees (row : keyLookup s.map.keyIndex key = some p) (mark : (s.activePoint p).mark = false)
    (agrees : pointAgrees (s.activePoint p) = true) :
    lookup key s = (s, some (p, (s.activePoint p).entry)) := by
  simp only [lookup, row, mark, agrees, Bool.false_eq_true, if_false, if_true]

theorem lookup_disagrees (row : keyLookup s.map.keyIndex key = some p)
    (mark : (s.activePoint p).mark = false) (disagrees : ¬pointAgrees (s.activePoint p) = true) :
    lookup key s = (faultPoint p s, none) := by
  simp only [lookup, row, mark, disagrees, Bool.false_eq_true, if_false]

/-- Settles O19: the key index gives the row, and the row's entry is marked, agrees, or is faulted. -/
theorem lookupAnswersOrMarksTheEntry : Obligations.LookupAnswersOrMarksTheEntry := by
  intro s key
  refine ⟨fun absent => lookup_absent (keyLookup_absent absent), fun p member distinct => ?_⟩
  have row := keyLookup_present member distinct
  refine ⟨lookup_marked row, fun mark agrees => ?_, fun mark disagrees => ?_⟩
  · exact lookup_agrees row mark ((pointAgrees_iff _).mpr agrees)
  · rw [lookup_disagrees row mark (mt (pointAgrees_iff _).mp disagrees), faultPoint_eq]

end Sys2Proof.Machine
end

section
/-! PROOF. WRITE_POINT: the checks of R5 in their order, the nineteen bytes of R202 read without loss, and the
shadow store of R6. -/

namespace Sys2Proof.Machine

variable {b : List Byte}

/-! ## Bytes read and written back (R198) -/

theorem u8_numAt (b : List Byte) (i : Nat) : u8 (numAt b i) = [byteAt b i] := u8_of_toNat rfl

/-- A number in range loses nothing as an index of that range. -/
theorem u8_ofNat_numAt {n i : Nat} [NeZero n] (h : numAt b i < n) :
    u8 (Fin.ofNat n (numAt b i)).val = [byteAt b i] := by
  rw [Fin.val_ofNat, Nat.mod_eq_of_lt h, u8_numAt]

theorem u16_wordAt (b : List Byte) (i : Nat) : u16 (wordAt b i) = [byteAt b i, byteAt b (i + 1)] := by
  have high := (byteAt b i).isLt
  have low := (byteAt b (i + 1)).isLt
  have quotient : wordAt b i / 256 = (byteAt b i).toNat := by simp only [wordAt, numAt]; omega
  have remainder : BitVec.ofNat 8 (wordAt b i) = byteAt b (i + 1) := by
    apply BitVec.eq_of_toNat_eq
    simp only [wordAt, numAt, BitVec.toNat_ofNat]
    omega
  rw [u16, byte_of_toNat quotient.symm, remainder]

theorem valueAt_toNat (b : List Byte) (i : Nat) : (valueAt b i).toNat = wordAt b i := by
  have low := (byteAt b (i + 1)).isLt
  rw [valueAt, BitVec.toNat_append, ← Nat.shiftLeft_add_eq_or_of_lt low, Nat.shiftLeft_eq]
  rfl

theorem s16_valueAt (b : List Byte) (i : Nat) : s16 (valueAt b i) = [byteAt b i, byteAt b (i + 1)] := by
  rw [s16, valueAt_toNat, u16_wordAt]

theorem map_byteAt_range (b : List Byte) : (List.range b.length).map (byteAt b) = b := by
  apply List.ext_getElem
  · simp
  · intro i _ h
    simp [byteAt, h]

/-! ## Enumerated fields of a point entry (R198, R202) -/

theorem policy_byte {c : Byte} (h : c.toNat < 4) :
    u8 ((enumOf policies c).getD .absorb).code = [c] := by
  apply u8_of_toNat
  have : c.toNat = 0 ∨ c.toNat = 1 ∨ c.toNat = 2 ∨ c.toNat = 3 := by omega
  rcases this with e | e | e | e <;> rw [enumOf, e] <;> rfl

theorem sense_byte {c : Byte} (h : c.toNat < 2) :
    u8 ((enumOf senses c).getD .insideNormal).code = [c] := by
  apply u8_of_toNat
  have : c.toNat = 0 ∨ c.toNat = 1 := by omega
  rcases this with e | e <;> rw [enumOf, e] <;> rfl

theorem enumOf_insideNormal (c : Byte) : enumOf senses c = some .insideNormal ↔ c.toNat = 0 := by
  unfold enumOf
  rcases c.toNat with _ | _ | n <;> simp [senses]

theorem raiseOn_byte {c : Byte} (h : c.toNat < 16) : u8 (raiseOnOf c).code = [c] := by
  apply u8_of_toNat
  simp only [RaiseOn.code, raiseOnOf, BitVec.getLsbD, Nat.toNat_testBit]
  omega

theorem slotByteOk_iff (c : Byte) : slotByteOk c = true ↔ c.toNat < 32 ∨ c.toNat = 255 := by
  simp [slotByteOk, ← BitVec.toNat_inj]

theorem slot_byte {c : Byte} (h : c.toNat < 32 ∨ c.toNat = 255) : slotOrNone (slotOf c) = [c] := by
  rcases h with isSlot | isNone
  · rw [slotOf_some (k := ⟨c.toNat, isSlot⟩) rfl]
    exact u8_of_toNat rfl
  · rw [slotOf_none (by omega), ← byte_of_toNat isNone]
    rfl

/-! ## The checks of R5 in their order -/

/-- A check of a list whose failure is the condition `fails`, ahead of checks whose verdict is known. -/
theorem firstFailure_check {α : Type} {ok : Bool} {fails : Prop} [Decidable fails] {x : α}
    {checks : List (Bool × α)} {verdict : Option α} (check : ok = true ↔ ¬fails)
    (others : firstFailure checks = verdict) :
    firstFailure ((ok, x) :: checks) = if fails then some x else verdict := by
  rw [firstFailure_cons, others]
  by_cases h : fails <;> simp [check, h]

theorem pointChecks_refusal (b : List Byte) : firstFailure (pointChecks b) = pointRefusal b := by
  have window : (enumOf senses (byteAt b 7) != some .insideNormal ||
        decide (2 * (wordAt b 12 : Int) ≤ (valueAt b 10).toInt - (valueAt b 8).toInt)) = true ↔
      ¬(numAt b 7 = 0 ∧ (valueAt b 10).toInt - (valueAt b 8).toInt < 2 * (wordAt b 12 : Int)) := by
    simp only [Bool.or_eq_true, bne_iff_ne, ne_eq, enumOf_insideNormal, decide_eq_true_eq, numAt]
    omega
  have policy : (enumOf policies (byteAt b 4)).isSome = true ↔ ¬4 ≤ numAt b 4 := by
    simp [enumOf_isSome, policies, numAt]
  have sense : (enumOf senses (byteAt b 7)).isSome = true ↔ ¬2 ≤ numAt b 7 := by
    simp [enumOf_isSome, senses, numAt]
  have slot : slotByteOk (byteAt b 18) = true ↔ ¬(32 ≤ numAt b 18 ∧ numAt b 18 ≠ 255) := by
    rw [slotByteOk_iff, numAt]
    omega
  unfold pointChecks pointRefusal
  refine firstFailure_check ?lane <| firstFailure_check ?node <| firstFailure_check ?index <|
    firstFailure_check policy <| firstFailure_check ?deadband <| firstFailure_check sense <|
    firstFailure_check ?upper <| firstFailure_check ?hysteresis <| firstFailure_check window <|
    firstFailure_check ?qualify <| firstFailure_check ?staleLimit <| firstFailure_check ?raiseOn <|
    firstFailure_check slot firstFailure_nil
  all_goals
    simp only [Bool.and_eq_true, decide_eq_true_eq]
    omega

/-- Nineteen bytes of R202 that pass every check of R5. -/
structure PointBytesPass (b : List Byte) : Prop where
  lane : numAt b 1 < 8
  node : numAt b 2 ≤ 30
  index : numAt b 3 < 16
  policy : numAt b 4 < 4
  deadband : wordAt b 5 ≤ 32767
  sense : numAt b 7 < 2
  upper : (valueAt b 8).toInt ≤ (valueAt b 10).toInt
  hysteresis : wordAt b 12 ≤ 4095
  window : numAt b 7 = 0 → 2 * (wordAt b 12 : Int) ≤ (valueAt b 10).toInt - (valueAt b 8).toInt
  qualify : 1 ≤ numAt b 14 ∧ numAt b 14 ≤ 8
  staleLimit : wordAt b 15 ≤ 600
  raiseOn : numAt b 17 < 16
  slot : numAt b 18 < 32 ∨ numAt b 18 = 255

theorem ite_some_eq_none_iff {α : Type} {fails : Prop} [Decidable fails] {x : α} {verdict : Option α} :
    (if fails then some x else verdict) = none ↔ ¬fails ∧ verdict = none := by
  by_cases h : fails <;> simp [h]

theorem pointBytesPass_of_pointRefusal (h : pointRefusal b = none) : PointBytesPass b := by
  simp only [pointRefusal, ite_some_eq_none_iff] at h
  obtain ⟨lane, node, index, policy, deadband, sense, upper, hysteresis, window, qualify, staleLimit,
    raiseOn, slot, -⟩ := h
  constructor <;> omega

/-! ## The entry that passing bytes carry -/

theorem pointOfBytes_legal (h : PointBytesPass b) : (pointOfBytes b).legal := by
  have node : (Fin.ofNat 32 (numAt b 2)).val ≤ 30 := by
    have := h.node
    rw [Fin.val_ofNat]
    omega
  have window : (pointOfBytes b).sense = .insideNormal →
      2 * (wordAt b 12 : Int) ≤ (valueAt b 10).toInt - (valueAt b 8).toInt := by
    intro inside
    apply h.window
    have code := sense_byte h.sense
    rw [show (enumOf senses (byteAt b 7)).getD .insideNormal = .insideNormal from inside] at code
    rw [numAt, ← List.singleton_injective code]
    rfl
  exact ⟨node, h.deadband, h.upper, h.hysteresis, window, h.qualify.1, h.qualify.2, h.staleLimit,
    fun invalid => nomatch invalid⟩

/-- The entry holds every bit of the bytes after the valid byte. -/
theorem pointOfBytes_bytes (length : b.length = 19) (h : PointBytesPass b) :
    (pointOfBytes b).bytes = 1#8 :: b.tail := by
  have listed : b.tail = ((List.range 19).map (byteAt b)).tail := by rw [← length, map_byteAt_range]
  have node : numAt b 2 < 32 := Nat.lt_of_le_of_lt h.node (by decide)
  rw [listed]
  simp only [PointEntry.bytes, pointOfBytes, u8_ofNat_numAt h.lane, u8_ofNat_numAt node,
    u8_ofNat_numAt h.index, policy_byte h.policy, u16_wordAt, sense_byte h.sense, s16_valueAt, u8_numAt,
    raiseOn_byte h.raiseOn, slot_byte h.slot]
  rfl

/-! ## The three outcomes of reading an entry (R4, R5) -/

theorem readPointEntry_invalid (h : byteAt b 0 = 0#8) : readPointEntry b = .ok PointEntry.invalid := by
  simp [readPointEntry, h]

theorem readPointEntry_refused {field : Nat} (h : byteAt b 0 ≠ 0#8) (refusal : pointRefusal b = some field) :
    readPointEntry b = .error field := by
  simp [readPointEntry, h, pointChecks_refusal, refusal]

theorem readPointEntry_passed (h : byteAt b 0 ≠ 0#8) (refusal : pointRefusal b = none) :
    readPointEntry b = .ok (pointOfBytes b) := by
  simp [readPointEntry, h, pointChecks_refusal, refusal]

/-! ## The request (R5, R6) -/

variable {s : State} {tag : Tag} {p : PointId} {rest : List (List Byte)}

/-- WRITE_POINT answers as its own checks do: its length and the tracker stand in no way. -/
theorem writePoint_answers {t : State} {status : Status} {results : List Byte}
    (free : s.mgmt.tracker.operation = .none) (length : b.length = 19)
    (takes : Takes s tag 2#8 (BitVec.ofNat 8 p.val :: b) rest)
    (ran : writePointOwn tag (BitVec.ofNat 8 p.val :: b) (taken tag rest s) =
      ⟨taken tag rest t, some ⟨status, results⟩⟩) :
    Answers .writePoint s tag rest status results t :=
  take_answers (o := .writePoint) takes (by simp [operandsFit, length]) (.inr free) ran

theorem writePoint_refuses {field : Nat} (free : s.mgmt.tracker.operation = .none) (length : b.length = 19)
    (takes : Takes s tag 2#8 (BitVec.ofNat 8 p.val :: b) rest) (read : readPointEntry b = .error field) :
    Answers .writePoint s tag rest .badValue (u8 field) s := by
  apply writePoint_answers free length takes
  simp only [writePointOwn, List.tail_cons, read]
  rfl

theorem writePoint_stores {e : PointEntry} (free : s.mgmt.tracker.operation = .none)
    (length : b.length = 19) (takes : Takes s tag 2#8 (BitVec.ofNat 8 p.val :: b) rest)
    (read : readPointEntry b = .ok e) :
    Answers .writePoint s tag rest .ok (u8 p.val ++ codeField (crc16 e.bytes))
      (s.setMap (s.map.setShadowBank (s.map.shadowBank.setPoint p ⟨e, crc16 e.bytes, false⟩))) := by
  have operand : (BitVec.ofNat 8 p.val).toNat = p.val := by simp
  apply writePoint_answers free length takes
  have own : writePointOwn tag (BitVec.ofNat 8 p.val :: b) (taken tag rest s) =
      answerOk (u8 (BitVec.ofNat 8 p.val).toNat ++ codeField (crc16 e.bytes))
        (storePoint (BitVec.ofNat 8 p.val).toFin e (taken tag rest s)) := by
    simp only [writePointOwn, List.tail_cons, read]
    rfl
  rw [own, toFin_of_toNat operand, operand]
  rfl

/-- Settles O32: the bytes are read as R4 and R5 say, and the entry read is stored or the field refused. -/
theorem writePointValidatesThenStoresInTheShadow : Obligations.WritePointValidatesThenStoresInTheShadow := by
  intro s tag p b rest free length takes stores storesIff
  have stored {e : PointEntry} (read : readPointEntry b = .ok e) : stores e :=
    (storesIff e).mpr (writePoint_stores free length takes read)
  refine ⟨fun invalid => ?_, fun valid field refusal => ?_, fun valid refusal => ?_⟩
  · exact stored (readPointEntry_invalid invalid)
  · exact writePoint_refuses free length takes (readPointEntry_refused valid refusal)
  · have pass := pointBytesPass_of_pointRefusal refusal
    exact ⟨pointOfBytes b, rfl, pointOfBytes_legal pass, pointOfBytes_bytes length pass,
      stored (readPointEntry_passed valid refusal)⟩

end Sys2Proof.Machine
end

section
/-! PROOF. The window and the votes of a fresh sample (R38 to R40). -/

namespace Sys2Proof.Machine

variable (e : PointEntry) (v : Value)

/-! ## The sides of the window (R38, R40) -/

theorem inWindow_iff : inWindow e v = true ↔ e.lower.toInt ≤ v.toInt ∧ v.toInt ≤ e.upper.toInt := by
  simp only [inWindow, Bool.and_eq_true, decide_eq_true_eq]

theorem abnormalSide_iff : abnormalSide e v = true ↔
    if e.sense = .insideNormal then ¬(e.lower.toInt ≤ v.toInt ∧ v.toInt ≤ e.upper.toInt)
    else e.lower.toInt ≤ v.toInt ∧ v.toInt ≤ e.upper.toInt := by
  rw [← inWindow_iff]
  cases sense : e.sense with
  | insideNormal => simp only [abnormalSide, sense, Bool.not_eq_true', if_true, Bool.not_eq_true]
  | outsideNormal => simp only [abnormalSide, sense, reduceCtorEq, if_false]

theorem returnSide_iff : returnSide e v = true ↔
    if e.sense = .insideNormal then
      e.lower.toInt + e.hysteresis ≤ v.toInt ∧ v.toInt ≤ e.upper.toInt - e.hysteresis
    else v.toInt < e.lower.toInt - e.hysteresis ∨ e.upper.toInt + e.hysteresis < v.toInt := by
  cases sense : e.sense with
  | insideNormal => simp only [returnSide, sense, Bool.and_eq_true, decide_eq_true_eq, if_true]
  | outsideNormal =>
    simp only [returnSide, sense, Bool.or_eq_true, decide_eq_true_eq, reduceCtorEq, if_false]

/-! ## The evaluation by condition (R38 to R40) -/

variable {e v} {vote : Nat}

theorem evaluate_unjudged {c : Condition} (unjudged : c = .unknown ∨ c = .stale ∨ c = .faulted) :
    evaluate e c vote v = if abnormalSide e v then (.abnormal, 0) else (.normal, 0) := by
  rcases unjudged with rfl | rfl | rfl <;> rfl

theorem evaluate_normal : evaluate e .normal vote v =
    if abnormalSide e v then if e.qualify ≤ vote + 1 then (.abnormal, 0) else (.normal, vote + 1)
    else (.normal, 0) := rfl

theorem evaluate_abnormal : evaluate e .abnormal vote v =
    if returnSide e v then if e.qualify ≤ vote + 1 then (.normal, 0) else (.abnormal, vote + 1)
    else (.abnormal, 0) := rfl

/-- Settles O21: each condition's evaluation tests one side of the window, then the incremented count. -/
theorem freshSampleJudgesByWindowAndVotes : Obligations.FreshSampleJudgesByWindowAndVotes := by
  rintro e v vote inside rfl abnormal rfl returns rfl
  rw [← abnormalSide_iff, ← returnSide_iff, evaluate_normal, evaluate_abnormal]
  refine ⟨fun c unjudged => ?_, fun votes reached => ?_, fun votes short => ?_, fun rests => ?_,
    fun votes reached => ?_, fun votes short => ?_, fun rests => ?_⟩
  · rw [evaluate_unjudged unjudged]
    exact ⟨fun abnormal => if_pos abnormal, fun normal => if_neg normal⟩
  · rw [if_pos votes, if_pos reached]
  · rw [if_pos votes, if_neg (Nat.not_le_of_lt short)]
  · rw [if_neg rests]
  · rw [if_pos votes, if_pos reached]
  · rw [if_pos votes, if_neg (Nat.not_le_of_lt short)]
  · rw [if_neg rests]

end Sys2Proof.Machine
end

section
/-! PROOF. What follows the judgement of a matched sample: its raise (R41), its forwarding (R42 to R44) and the
reports it triggers (R45). -/

namespace Sys2Proof.Machine

/-! ## Forwarding (R42 to R44) -/

section forwarding

variable {s : State} {p : PointId} {e : PointEntry} {changed : Bool} {f : Frame} {x : Reading}

/-- The deadband's test on true integers: the difference does not wrap (R42). -/
theorem forwards_deadband_iff {last : Option Value} (deadband : e.policy = .deadband) :
    forwards e changed last x = true ↔
      changed = true ∨ last = none ∨
        (x.held = false ∧ x.fault = false ∧
          ∃ v, last = some v ∧ (e.deadband : Int) ≤ |x.value.toInt - v.toInt|) := by
  cases last with
  | none => simp [forwards, deadband]
  | some v =>
    simp only [forwards, deadband, Bool.or_eq_true, Bool.and_eq_true, Bool.not_eq_true', decide_eq_true_eq,
      Int.abs_eq_natAbs, Nat.cast_le, and_assoc, reduceCtorEq, false_or, Option.some.injEq,
      exists_eq_left']

theorem forwardStage_unsent (unsent : ¬forwards e changed s.records[p].lastForwarded x = true) :
    forwardStage p e changed f x s = s := by
  simp only [forwardStage, unsent, Bool.false_eq_true, if_false]

theorem forwardStage_accepted (sent : forwards e changed s.records[p].lastForwarded x = true)
    (accepts : s.dataAccepts = true) :
    forwardStage p e changed f x s =
      placeData (.data ⟨p, s.records[p].condition, changed, x, f.sequence, f.arrival⟩)
        (s.setRecord p { s.records[p] with lastForwarded := some x.value }) := by
  simp only [forwardStage, sent, accepts, if_true]

/-- A message that is not placed leaves the last forwarded value (R43, R44). -/
theorem forwardStage_refused (sent : forwards e changed s.records[p].lastForwarded x = true)
    (refuses : ¬s.dataAccepts = true) :
    forwardStage p e changed f x s =
      offerData (.data ⟨p, s.records[p].condition, changed, x, f.sequence, f.arrival⟩) s := by
  simp only [forwardStage, sent, refuses, Bool.false_eq_true, if_true, if_false]

theorem dataAccepts_iff : s.dataAccepts = true ↔ s.link.state = .active ∧ s.out.dataQ.length < 32 := by
  rw [State.dataAccepts, Bool.and_eq_true, beq_iff_eq, decide_eq_true_eq]
  rfl

theorem offerData_absorbed (m : Message) (closed : s.link.state ≠ .active) :
    offerData m s = countAbsorbed s := if_pos closed

theorem offerData_lost (m : Message) (active : s.link.state = .active) (full : 32 ≤ s.out.dataQ.length) :
    offerData m s = raiseDevice .dataLoss (countLoss s) := by
  have refuses : ¬s.out.dataQ.length < Config.dataCapacity := Nat.not_lt_of_le full
  rw [offerData, if_neg (not_not_intro active), if_neg refuses]

end forwarding

/-! ## Raises and the stages of one sample (R31, R41) -/

theorem raisesOnEntry_iff (e : PointEntry) (old new : Condition) :
    raisesOnEntry e old new = true ↔
      new ≠ old ∧
        ((new = .abnormal ∧ e.raiseOn.abnormal) ∨
          (new = .normal ∧ old ≠ .unknown ∧ e.raiseOn.normalReturn) ∨
          (new = .faulted ∧ e.raiseOn.fault)) := by
  by_cases same : old = new
  · simp [raisesOnEntry, same]
  · cases new <;> simp [raisesOnEntry, same, Ne.symm same]

/-- A matched sample that is no duplicate: its record, its raise, its forwarding, its reports (R31). -/
theorem processSample_matched {s u : State} {l : LaneId} {f : Frame} {i : Nat} {x : Reading} {p : PointId}
    {e : PointEntry}
    (found : lookup ⟨l, f.node, Fin.ofNat 16 (f.startIndex.val + i)⟩ s = (s, some (p, e)))
    (fresh : s.records[p].lastSequence ≠ some f.sequence)
    (recorded : u = s.setRecord p
      (conditionStage e f.arrival (staleStart s (s.activePoint p)) x
        (sequenceStage f.sequence s.records[p]))) :
    processSample l f i x s =
      groupStage p
        (forwardStage p e (u.records[p].condition != s.records[p].condition) f x
          (if raisesOnEntry e s.records[p].condition u.records[p].condition then
            raiseInto e.slot (.point p) u else u)) := by
  have accepted : ¬isDuplicate s.records[p] f.sequence = true := by simpa [isDuplicate] using fresh
  subst recorded
  simp only [processSample, found, matchedSample, accepted, Bool.false_eq_true, if_false,
    State.setRecord_records, rowSet_self]

/-! ## One group's turn (R45, R110, R113, R116) -/

/-- The turn of group `g` in the trigger stage of a sample of point `p`. -/
def groupTurn (p : PointId) (s : State) (g : GroupId) : State :=
  if sampleTriggers s p g then assembleReport g .onSample s else s

/-- The state after the turns of the first `n` groups. -/
def afterGroups (p : PointId) (s : State) (n : Nat) : State :=
  ((allFin 16).take n).foldl (groupTurn p) s

theorem afterGroups_all (p : PointId) (s : State) : afterGroups p s 16 = groupStage p s := by
  rw [afterGroups, List.take_of_length_le (allFin_length 16).le]
  rfl

theorem afterGroups_succ (p : PointId) (s : State) (g : GroupId) :
    afterGroups p s (g.val + 1) = groupTurn p (afterGroups p s g.val) g := by
  have here : g.val < (allFin 16).length := by simp
  rw [afterGroups, List.take_succ_eq_append_getElem here, List.foldl_append, allFin_getElem]
  rfl

theorem groupAgrees_iff (e : Stored GroupEntry) : groupAgrees e = true ↔ crc16 e.entry.bytes = e.code := by
  simp [groupAgrees, GroupEntry.checkCode]

theorem sampleTriggers_iff (s : State) (p : PointId) (g : GroupId) :
    sampleTriggers s p g = true ↔
      (s.activeGroup g).entry.trigger = .onSample ∧ (s.activeGroup g).mark = false ∧
        (s.activeGroup g).entry.start.val + (s.activeGroup g).entry.triggerMember = p.val := by
  simp only [sampleTriggers, Bool.and_eq_true, beq_iff_eq, Bool.not_eq_true', and_assoc]

section turn

variable {s : State} {p : PointId} {g : GroupId}

theorem groupTurn_passed (passed : ¬sampleTriggers s p g = true) : groupTurn p s g = s := if_neg passed

theorem groupTurn_reports (triggered : sampleTriggers s p g = true)
    (agrees : groupAgrees (s.activeGroup g) = true) :
    groupTurn p s g = offerData (buildReport s g (s.activeGroup g).entry .onSample none) s := by
  obtain ⟨onSample, unmarked, -⟩ := (sampleTriggers_iff s p g).mp triggered
  simp [groupTurn, triggered, assembleReport, unmarked, agrees, onSample]

theorem groupTurn_faults (triggered : sampleTriggers s p g = true)
    (disagrees : ¬groupAgrees (s.activeGroup g) = true) : groupTurn p s g = faultGroup g s := by
  obtain ⟨-, unmarked, -⟩ := (sampleTriggers_iff s p g).mp triggered
  simp [groupTurn, triggered, assembleReport, unmarked, disagrees]

end turn

/-! ## What the turns leave for the later ones -/

/-- State `t` shows the groups from `n` on, and every member, as state `s` does. -/
structure ShowsGroupsFrom (n : Nat) (s t : State) : Prop where
  records : t.records = s.records
  deviceTime : t.deviceTime = s.deviceTime
  generation : t.map.generation = s.map.generation
  points : t.map.activeBank.points = s.map.activeBank.points
  groups : ∀ g : GroupId, n ≤ g.val → t.activeGroup g = s.activeGroup g

namespace ShowsGroupsFrom

variable {n : Nat} {s t : State}

theorem refl (s : State) : ShowsGroupsFrom n s s := ⟨rfl, rfl, rfl, rfl, fun _ _ => rfl⟩

theorem succ (shows : ShowsGroupsFrom n s t) : ShowsGroupsFrom (n + 1) s t :=
  { shows with groups := fun g later => shows.groups g (Nat.le_of_succ_le later) }

theorem after_raiseDevice (shows : ShowsGroupsFrom n s t) (d : DeviceCause) :
    ShowsGroupsFrom n s (raiseDevice d t) := by
  obtain ⟨slots, link, out, raised, -⟩ := raiseDevice_frame t d
  rw [raised]
  exact ⟨shows.records, shows.deviceTime, shows.generation, shows.points, shows.groups⟩

theorem after_offerData (shows : ShowsGroupsFrom n s t) (m : Message) :
    ShowsGroupsFrom n s (offerData m t) := by
  obtain ⟨slots, out, offered, -⟩ := offerData_frame t m
  rw [offered]
  exact ⟨shows.records, shows.deviceTime, shows.generation, shows.points, shows.groups⟩

/-- A mark of group `g` leaves the groups after it. -/
theorem after_faultGroup {g : GroupId} (shows : ShowsGroupsFrom g.val s t) :
    ShowsGroupsFrom (g.val + 1) s (faultGroup g t) := by
  rw [faultGroup_eq]
  apply ShowsGroupsFrom.after_raiseDevice
  obtain ⟨-, -, generation, -⟩ := t.map.setActiveBank_frame
    (t.map.activeBank.setGroup g { t.activeGroup g with mark := true })
  refine ⟨shows.records, shows.deviceTime, generation.trans shows.generation, ?_, fun j later => ?_⟩
  · rw [MapStore.setActiveBank_activeBank]
    exact shows.points
  · have other : j ≠ g := fun same => absurd later (by rw [same]; exact Nat.not_succ_le_self _)
    rw [← shows.groups j (Nat.le_of_succ_le later)]
    simp only [State.activeGroup, MapStore.setActiveBank_activeBank, Bank.setGroup, rowSet_other _ _ other]

theorem after_groupTurn {g : GroupId} (shows : ShowsGroupsFrom g.val s t) (p : PointId) :
    ShowsGroupsFrom (g.val + 1) s (groupTurn p t g) := by
  by_cases triggered : sampleTriggers t p g = true
  · by_cases agrees : groupAgrees (t.activeGroup g) = true
    · rw [groupTurn_reports triggered agrees]
      exact (shows.after_offerData _).succ
    · rw [groupTurn_faults triggered agrees]
      exact shows.after_faultGroup
  · rw [groupTurn_passed triggered]
    exact shows.succ

theorem sampleTriggers_eq (shows : ShowsGroupsFrom n s t) (p : PointId) {g : GroupId} (later : n ≤ g.val) :
    sampleTriggers t p g = sampleTriggers s p g := by
  simp only [sampleTriggers, shows.groups g later]

theorem reportMember_eq (shows : ShowsGroupsFrom n s t) (p : PointId) : reportMember t p = reportMember s p := by
  have point : t.activePoint p = s.activePoint p := by rw [State.activePoint, shows.points]; rfl
  simp only [reportMember, shows.records, shows.deviceTime, point]

theorem buildReport_eq (shows : ShowsGroupsFrom n s t) (g : GroupId) (e : GroupEntry) (origin : Origin)
    (tag : Option Tag) : buildReport t g e origin tag = buildReport s g e origin tag := by
  simp only [buildReport, shows.generation, shows.deviceTime, funext shows.reportMember_eq]

end ShowsGroupsFrom

theorem afterGroups_shows (p : PointId) (s : State) {n : Nat} (within : n ≤ 16) :
    ShowsGroupsFrom n s (afterGroups p s n) := by
  induction n with
  | zero => exact .refl s
  | succ n ih =>
    have shows := ih (Nat.le_of_succ_le within)
    rw [afterGroups_succ p s ⟨n, within⟩]
    exact shows.after_groupTurn (g := ⟨n, within⟩) p

theorem reportMembers_shown (s : State) (e : GroupEntry) :
    s.showsMembers e ((groupMembers e).map (reportMember s)) := by
  refine ⟨by simp [groupMembers], ?_⟩
  rintro n inside p rfl
  simp only [List.getElem_map, groupMembers, List.getElem_range, reportMember]
  rfl

/-! ## The three stages together -/

/-- The forwarding step of an accepted sample (R42 to R44). -/
theorem forwardStage_outcomes (s : State) (p : PointId) (e : PointEntry) (changed : Bool) (f : Frame)
    (x : Reading) (m : Message)
    (message : m = .data ⟨p, s.records[p].condition, changed, x, f.sequence, f.arrival⟩) :
    (¬forwards e changed s.records[p].lastForwarded x = true → forwardStage p e changed f x s = s) ∧
    (forwards e changed s.records[p].lastForwarded x = true →
      s.link.state = .active → s.out.dataQ.length < 32 →
      forwardStage p e changed f x s =
        placeData m (s.setRecord p { s.records[p] with lastForwarded := some x.value })) ∧
    (forwards e changed s.records[p].lastForwarded x = true → s.link.state ≠ .active →
      forwardStage p e changed f x s = countAbsorbed s) ∧
    (forwards e changed s.records[p].lastForwarded x = true →
      s.link.state = .active → 32 ≤ s.out.dataQ.length →
      forwardStage p e changed f x s = raiseDevice .dataLoss (countLoss s)) := by
  subst message
  refine ⟨forwardStage_unsent, fun sent active room => ?_, fun sent closed => ?_,
    fun sent active full => ?_⟩
  · exact forwardStage_accepted sent (dataAccepts_iff.mpr ⟨active, room⟩)
  · rw [forwardStage_refused sent fun accepts => closed (dataAccepts_iff.mp accepts).1]
    exact offerData_absorbed _ closed
  · rw [forwardStage_refused sent fun accepts =>
      Nat.not_lt_of_le full (dataAccepts_iff.mp accepts).2]
    exact offerData_lost _ active full

/-- Settles O23: the policy's test, the stages of one sample in their order, and the turns of the groups, which
leave the later groups and every member as they found them. -/
theorem sampleTakenRaisesForwardsAndTriggers : Obligations.SampleTakenRaisesForwardsAndTriggers := by
  refine ⟨?_, ?_, fun s p => ⟨afterGroups p s, rfl, afterGroups_all p s, ?_⟩⟩
  · rintro s p e changed f x sends m policy message
    have sent : sends = (forwards e changed s.records[p].lastForwarded x = true) := by
      rw [policy]
      cases kind : e.policy with
      | absorb => simp [forwards, kind]
      | always => simp [forwards, kind]
      | transition => simp [forwards, kind]
      | deadband => exact (propext (forwards_deadband_iff kind)).symm
    rw [sent]
    exact forwardStage_outcomes s p e changed f x m message
  · rintro s u l f i x p e - found fresh recorded selected selection
    have raises := raisesOnEntry_iff e s.records[p].condition u.records[p].condition
    rw [← selection] at raises
    rw [processSample_matched found fresh recorded]
    exact ⟨fun chosen => by rw [if_pos (raises.mpr chosen)],
      fun unchosen => by rw [if_neg (mt raises.mp unchosen)]⟩
  · rintro g e rfl triggered trigger
    rw [← sampleTriggers_iff] at trigger
    subst trigger
    have shows := afterGroups_shows p s g.isLt.le
    have group := shows.groups g le_rfl
    rw [← shows.sampleTriggers_eq p le_rfl, afterGroups_succ, ← group, ne_eq, ← groupAgrees_iff]
    refine ⟨fun triggered agrees => ?_, ?_, groupTurn_passed⟩
    · refine ⟨_, reportMembers_shown s _, ?_⟩
      rw [groupTurn_reports triggered agrees, shows.buildReport_eq]
      rfl
    · rintro triggered disagrees _ rfl
      rw [groupTurn_faults triggered disagrees, faultGroup_eq]

end Sys2Proof.Machine
end

section
/-! PROOF. When the Alert Delivery Unit makes a selection and what it chooses (R69, R78). -/

namespace Sys2Proof.Machine

/-- An Alert queue entry is free exactly when fewer messages wait than the queue holds (R175). -/
theorem Outbound.alertFree_pos_iff {o : Outbound} : 0 < o.alertFree ↔ o.alertQ.length < 8 :=
  Nat.sub_pos_iff_lt

/-- No repeat is owed exactly when no record of the stack waits as REPEAT_OWED (R78). -/
theorem owedCount_eq_zero_iff {stack : List InService} :
    owedCount stack = 0 ↔ ∀ r ∈ stack, r.state ≠ .repeatOwed := by
  simp only [owedCount, List.countP_eq_zero, beq_iff_eq, ne_eq]

/-- A selection is the best slot's, made while the link is ACTIVE with an Alert queue entry no repeat claims
(R69). -/
theorem State.selection_eq_some_iff {s : State} {k : SlotId} : s.selection = some k ↔
    (s.link.state = .active ∧ s.out.alertQ.length < 8 ∧ ∀ r ∈ s.stack, r.state ≠ .repeatOwed) ∧
      bestSlot s.stack s.slots = some k := by
  rw [State.selection, Option.ite_none_right_eq_some, gt_iff_lt, Outbound.alertFree_pos_iff,
    owedCount_eq_zero_iff]

/-- Settles O28: the conditions of R69 let the best slot through, and the best slot is the least selectable
one; the wake demand asks only whether there is one. -/
theorem selectionChoosesTheMostUrgentSlot : Obligations.SelectionChoosesTheMostUrgentSlot := by
  refine fun s => ⟨fun k => ?_, wakeDemand_iff s⟩
  rw [State.selection_eq_some_iff, bestSlot_some, and_assoc, and_assoc]

end Sys2Proof.Machine
end

section
/-! PROOF. The check pass of a COMMIT: what it finds at one shadow entry, and what one event of it does with
that finding (R101, R102). -/

namespace Sys2Proof.Machine

/-! ## The positions of the check order (R101) -/

theorem pointAt_val (p : PointId) : pointAt p.val = p := Fin.ofNat_val_eq_self p

theorem groupAt_val (g : GroupId) : groupAt (256 + g.val) = g := by
  rw [groupAt, Nat.add_sub_cancel_left]
  exact Fin.ofNat_val_eq_self g

theorem checkEntry_point (shadow : Bank) (p : PointId) (index : List KeyRow) :
    checkEntry shadow p.val index = checkPoint p shadow.points[p] index := by
  simp only [checkEntry, p.isLt, if_true, pointAt_val]

theorem checkEntry_group (shadow : Bank) (g : GroupId) (index : List KeyRow) :
    checkEntry shadow (256 + g.val) index = checkGroup g shadow.groups[g] index := by
  have outside : ¬256 + g.val < 256 := by omega
  simp only [checkEntry, outside, if_false, groupAt_val]

/-! ## The finding at one entry (R101) -/

section finding

variable {index : List KeyRow} {p q : PointId} {e : Stored PointEntry} {g : GroupId}
  {stored : Stored GroupEntry}

theorem checkPoint_disagrees (disagrees : crc16 e.entry.bytes ≠ e.code) :
    checkPoint p e index = .refused .integrity ([0#8] ++ u8 p.val) := by
  have unequal : pointAgrees e = false := Bool.eq_false_iff.mpr (mt (pointAgrees_iff e).mp disagrees)
  rw [checkPoint, unequal]
  rfl

theorem checkPoint_invalid (agrees : crc16 e.entry.bytes = e.code) (invalid : e.entry.valid = false) :
    checkPoint p e index = .passed index := by
  rw [checkPoint, (pointAgrees_iff e).mpr agrees, invalid]
  rfl

/-- The search of the index under construction is the lookup of a key in it. -/
theorem checkPoint_freshKey (agrees : crc16 e.entry.bytes = e.code) (valid : e.entry.valid = true)
    (fresh : keyLookup index e.entry.key = none) :
    checkPoint p e index = .passed (index ++ [⟨e.entry.key, p⟩]) := by
  rw [checkPoint, (pointAgrees_iff e).mpr agrees, valid, Option.map_eq_none_iff.mp fresh]
  rfl

theorem checkPoint_takenKey (agrees : crc16 e.entry.bytes = e.code) (valid : e.entry.valid = true)
    (taken : keyLookup index e.entry.key = some q) :
    checkPoint p e index = .refused .dupKey (u8 q.val ++ u8 p.val) := by
  obtain ⟨row, found, rfl⟩ := Option.map_eq_some_iff.mp taken
  rw [checkPoint, (pointAgrees_iff e).mpr agrees, valid, found]
  rfl

theorem checkGroup_disagrees (disagrees : crc16 stored.entry.bytes ≠ stored.code) :
    checkGroup g stored index = .refused .integrity ([1#8] ++ u8 g.val) := by
  have unequal : groupAgrees stored = false :=
    Bool.eq_false_iff.mpr (mt (groupAgrees_iff stored).mp disagrees)
  rw [checkGroup, unequal]
  rfl

theorem checkGroup_agrees (agrees : crc16 stored.entry.bytes = stored.code) :
    checkGroup g stored index = .passed index := by
  rw [checkGroup, (groupAgrees_iff stored).mpr agrees]
  rfl

end finding

/-! ## One event of the check pass (R101, R102) -/

section event

variable {s : State} (released : s.inReset = false) (commit : s.mgmt.tracker.operation = .commit)
  (checking : s.mgmt.tracker.phase = .checking)
include released commit checking

theorem checkPassEntry_refused {status : Status} {results : List Byte}
    (finding : checkEntry s.map.shadowBank s.mgmt.tracker.position s.map.partialIndex =
      .refused status results) :
    exec .checkPassEntry s =
      .next (longOpEnded ⟨s.mgmt.tracker.tag, 7#8, status, results⟩
        { s with map := { s.map with partialIndex := [] } }) := by
  have ended : checkPassEntryEvent s = endLongOp status results (setPartialIndex [] s) := by
    simp only [checkPassEntryEvent, commit, checking, and_self, if_true, finding]
  have code : (setPartialIndex [] s).mgmt.tracker.operation.requestCode = 7#8 := by
    rw [setPartialIndex, State.setMap_mgmt, commit]
    rfl
  calc exec .checkPassEntry s = running checkPassEntryEvent s := rfl
    _ = .next (checkPassEntryEvent s) := running_released s _ released
    _ = _ := by rw [ended, endLongOp_eq, code]; rfl

/-- The position after the last group is 272, the number of a bank's entries. -/
theorem checkPassEntry_passed {index : List KeyRow}
    (finding : checkEntry s.map.shadowBank s.mgmt.tracker.position s.map.partialIndex = .passed index) :
    exec .checkPassEntry s =
      .next
        { s with
          map := { s.map with partialIndex := index }
          mgmt :=
            { s.mgmt with
              tracker :=
                { s.mgmt.tracker with
                  position := s.mgmt.tracker.position + 1
                  phase := if s.mgmt.tracker.position + 1 < 272 then .checking else .ready } } } := by
  have moved : checkPassEntryEvent s =
      if s.mgmt.tracker.position + 1 < 272 then advance (setPartialIndex index s)
      else setPhase .ready (advance (setPartialIndex index s)) := by
    simp only [checkPassEntryEvent, commit, checking, and_self, if_true, finding]
    rfl
  calc exec .checkPassEntry s = running checkPassEntryEvent s := rfl
    _ = .next (checkPassEntryEvent s) := running_released s _ released
    _ = _ := by
      rw [moved]
      split
      · rw [← checking]; rfl
      · rfl

end event

/-- Settles O38: the finding at the entry is its disagreement, the earlier holder of its key, or the index
after it, and the event ends the COMMIT or moves on accordingly. -/
theorem checkPassExaminesOneEntry : Obligations.CheckPassExaminesOneEntry := by
  rintro s n released commit checking rfl refused passed refusedIff passedIff
  have refuses {status results} (finding : checkEntry s.map.shadowBank s.mgmt.tracker.position
      s.map.partialIndex = .refused status results) : refused status results :=
    (refusedIff _ _).mpr (checkPassEntry_refused released commit checking finding)
  have passes {index} (finding : checkEntry s.map.shadowBank s.mgmt.tracker.position
      s.map.partialIndex = .passed index) : passed index :=
    (passedIff _).mpr (checkPassEntry_passed released commit checking finding)
  constructor
  · rintro p e position rfl
    rw [position, checkEntry_point] at refuses passes
    refine ⟨fun disagrees => refuses (checkPoint_disagrees disagrees),
      fun agrees => ⟨fun invalid => passes (checkPoint_invalid agrees invalid),
        fun valid => ⟨fun absent => ?_, fun q earlier distinct => ?_⟩⟩⟩
    · exact passes (checkPoint_freshKey agrees valid (keyLookup_absent absent))
    · exact refuses (checkPoint_takenKey agrees valid (keyLookup_present earlier distinct))
  · rintro g e position rfl
    rw [position, checkEntry_group] at refuses passes
    exact ⟨fun disagrees => refuses (checkGroup_disagrees disagrees),
      fun agrees => passes (checkGroup_agrees agrees)⟩

end Sys2Proof.Machine
end

section
/-! PROOF. RELAY: the eight checks of R141 in their order, and the frame a request that passes them places. -/

namespace Sys2Proof.Machine

/-! ## The checks in their order (R141) -/

theorem Lane.enabled_iff (x : Lane) : x.enabled = true ↔ ¬x.state = .disabled := by
  simp [Lane.enabled]

/-- Checks 2 to 4 look at the node, the payload's length and the confirm flag, in that order. -/
theorem relayChecks_verdict (o : List Byte) : firstFailure (relayChecks o) =
    if 31 < numAt o 1 then some 2
    else if numAt o 3 = 0 ∨ 32 < numAt o 3 then some 4
    else if 2 ≤ numAt o 2 then some 3
    else none := by
  have confirm : (enumOf confirms (byteAt o 2)).isSome = true ↔ ¬2 ≤ numAt o 2 := by
    simp [enumOf_isSome, confirms, numAt]
  refine firstFailure_check ?node <| firstFailure_check ?length <|
    firstFailure_check confirm firstFailure_nil
  all_goals
    simp only [Bool.and_eq_true, decide_eq_true_eq]
    omega

/-- Checks 5 to 8 look at the lane's mode, its enable, the relay queue and the Reply queue, in that order. -/
theorem relayRefusals_verdict (l : LaneId) (confirm : Bool) (s : State) :
    firstFailure (relayRefusals l confirm s) =
      if s.transmitting l = false then some ⟨.laneMode, u8 l.val⟩
      else if s.lanes[l].state = .disabled then some ⟨.laneDisabled, u8 l.val⟩
      else if 4 ≤ s.pairs[pairOf l].relay.queue.length then some ⟨.queueFull, [0#8]⟩
      else if confirm = true ∧ s.replyFree < 2 then some ⟨.queueFull, [1#8]⟩
      else none := by
  refine firstFailure_check (by simp) <| firstFailure_check (Lane.enabled_iff _) <|
    firstFailure_check ?relayQueue <| firstFailure_check ?replyQueue firstFailure_nil
  case relayQueue => rw [decide_eq_true_eq, Config.relayCapacity, Nat.not_le]
  case replyQueue => cases confirm <;> simp [Nat.succ_le_iff]

/-! ## The three outcomes of the operation's own checks and effect (R141) -/

section outcomes

variable {s : State} {tag : Tag} {o : List Byte} {l : LaneId} {confirm : Bool}

theorem relayOwn_unnamedLane (lane : laneOf (byteAt o 0) = none) :
    relayOwn tag o s = badIndex (byteAt o 0) s := by
  simp only [relayOwn, lane]

theorem relayOwn_badValue {field : Nat} (lane : laneOf (byteAt o 0) = some l)
    (fails : firstFailure (relayChecks o) = some field) : relayOwn tag o s = badValue field s := by
  simp only [relayOwn, lane, fails]

theorem relayOwn_refuses {status : Status} {results : List Byte} (lane : laneOf (byteAt o 0) = some l)
    (passes : firstFailure (relayChecks o) = none) (flag : enumOf confirms (byteAt o 2) = some confirm)
    (fails : firstFailure (relayRefusals l confirm s) = some ⟨status, results⟩) :
    relayOwn tag o s = refuse status results s := by
  simp only [relayOwn, lane, passes, flag, Option.getD_some, fails]

/-- The queue length answered counts the frame just placed. -/
theorem relayOwn_places (lane : laneOf (byteAt o 0) = some l)
    (passes : firstFailure (relayChecks o) = none) (flag : enumOf confirms (byteAt o 2) = some confirm)
    (free : firstFailure (relayRefusals l confirm s) = none) :
    relayOwn tag o s =
      answerOk
        (u8 l.val ++ [byteAt o 1] ++ u8 (s.pairs[pairOf l].relay.queue.length + 1) ++ yesNo confirm)
        (placeRelay (pairOf l) (relayFrameOf tag o confirm) s) := by
  simp only [relayOwn, lane, passes, flag, Option.getD_some, free, u8_numAt, placeRelay,
    State.setPair_pairs, rowSet_self, List.length_append, List.length_singleton]

end outcomes

/-! ## The request (R141, R142) -/

section request

variable {s : State} {tag : Tag} {b0 b1 b2 b3 : Byte} {payload : List Byte} {rest : List (List Byte)}

/-- RELAY answers as its own checks do: the length byte announces the payload, and RELAY names no map. -/
theorem relay_answers {t : State} {status : Status} {results : List Byte}
    (length : payload.length = b3.toNat) (takes : Takes s tag 19#8 (b0 :: b1 :: b2 :: b3 :: payload) rest)
    (ran : relayOwn tag (b0 :: b1 :: b2 :: b3 :: payload) (taken tag rest s) =
      ⟨taken tag rest t, some ⟨status, results⟩⟩) :
    Answers .relay s tag rest status results t := by
  have fits : operandsFit .relay (b0 :: b1 :: b2 :: b3 :: payload) = true := by
    have counted : (b0 :: b1 :: b2 :: b3 :: payload).length = 4 + b3.toNat := by
      simp only [List.length_cons, length]
      omega
    rw [operandsFit, counted, Bool.and_eq_true, decide_eq_true_eq]
    exact ⟨Nat.le_add_right _ _, beq_self_eq_true _⟩
  exact take_answers (o := .relay) takes fits (.inl rfl) ran

theorem relay_badValue {field : Nat} (length : payload.length = b3.toNat)
    (takes : Takes s tag 19#8 (b0 :: b1 :: b2 :: b3 :: payload) rest) (lane : b0.toNat < 8)
    (fails : firstFailure (relayChecks (b0 :: b1 :: b2 :: b3 :: payload)) = some field) :
    Answers .relay s tag rest .badValue (u8 field) s :=
  relay_answers length takes (relayOwn_badValue (laneOf_some (l := ⟨b0.toNat, lane⟩) rfl) fails)

variable {l : LaneId} {confirm : Bool}

theorem relay_refuses {status : Status} {results : List Byte} (length : payload.length = b3.toNat)
    (takes : Takes s tag 19#8 (b0 :: b1 :: b2 :: b3 :: payload) rest) (lane : b0.toNat = l.val)
    (passes : firstFailure (relayChecks (b0 :: b1 :: b2 :: b3 :: payload)) = none)
    (flag : b2 = BitVec.ofNat 8 confirm.toNat)
    (fails : firstFailure (relayRefusals l confirm s) = some ⟨status, results⟩) :
    Answers .relay s tag rest status results s := by
  subst flag
  exact relay_answers length takes
    (relayOwn_refuses (laneOf_some lane) passes (enumOf_confirm confirm) fails)

/-- The frame of the operands carries the request's node and payload, and a reservation with confirm YES. -/
theorem relayFrameOf_operands {node : NodeAddr} (named : b1.toNat = node.val) (confirm : Bool) :
    relayFrameOf tag (b0 :: b1 :: b2 :: b3 :: payload) confirm =
      ⟨tag, node, payload, if confirm then some .reserved else none⟩ := by
  have address : Fin.ofNat 32 b1.toNat = node := by rw [named, Fin.ofNat_val_eq_self]
  rw [← address]
  rfl

theorem relay_places {node : NodeAddr} (length : payload.length = b3.toNat)
    (takes : Takes s tag 19#8 (b0 :: b1 :: b2 :: b3 :: payload) rest) (lane : b0.toNat = l.val)
    (named : b1.toNat = node.val)
    (passes : firstFailure (relayChecks (b0 :: b1 :: b2 :: b3 :: payload)) = none)
    (flag : b2 = BitVec.ofNat 8 confirm.toNat) (free : firstFailure (relayRefusals l confirm s) = none) :
    Answers .relay s tag rest .ok
      ([b0, b1] ++ u8 (s.pairs[pairOf l].relay.queue.length + 1) ++ [b2])
      (placeRelay (pairOf l) ⟨tag, node, payload, if confirm then some .reserved else none⟩ s) := by
  subst flag
  have placed := relayOwn_places (s := taken tag rest s) (tag := tag) (o := b0 :: b1 :: _ :: b3 :: payload)
    (laneOf_some lane) passes (enumOf_confirm confirm) free
  rw [u8_of_toNat lane, relayFrameOf_operands named] at placed
  exact relay_answers length takes placed

end request

/-- Settles O16: the operand checks and then the state's give the first refusal, and a request that none
refuses places its frame. -/
theorem relayChecksAndQueuesOneFrame : Obligations.RelayChecksAndQueuesOneFrame := by
  intro s tag b0 b1 b2 b3 payload rest length takes
  have verdict : firstFailure (relayChecks (b0 :: b1 :: b2 :: b3 :: payload)) =
      if 31 < b1.toNat then some 2 else if b3.toNat = 0 ∨ 32 < b3.toNat then some 4
      else if 2 ≤ b2.toNat then some 3 else none := relayChecks_verdict _
  refine ⟨fun unnamed => ?_, fun lane node => ?_, fun lane node long => ?_,
    fun lane node short fits flag => ?_, fun l node confirm lane named short fits flag => ?_⟩
  · exact relay_answers length takes (relayOwn_unnamedLane (laneOf_none unnamed))
  · exact relay_badValue length takes lane (by rw [verdict, if_pos node])
  · exact relay_badValue length takes lane (by rw [verdict, if_neg (by omega), if_pos long])
  · exact relay_badValue length takes lane
      (by rw [verdict, if_neg (by omega), if_neg (by omega), if_pos flag])
  · have code : b2.toNat < 2 := by subst flag; cases confirm <;> decide
    have passes : firstFailure (relayChecks (b0 :: b1 :: b2 :: b3 :: payload)) = none := by
      rw [verdict, if_neg (by omega), if_neg (by omega), if_neg (by omega)]
    have refuses {status results}
        (fails : firstFailure (relayRefusals l confirm s) = some ⟨status, results⟩) :
        Answers .relay s tag rest status results s := relay_refuses length takes lane passes flag fails
    have refusal := relayRefusals_verdict l confirm s
    rw [u8_of_toNat lane] at refusal
    refine ⟨fun split => ?_, fun joined => ?_⟩
    · exact refuses (by rw [refusal, if_pos split])
    rw [if_neg (by simp [joined])] at refusal
    refine ⟨fun disabled => ?_, fun enabled => ?_⟩
    · exact refuses (by rw [refusal, if_pos disabled])
    rw [if_neg enabled] at refusal
    refine ⟨fun full => ?_, fun room => ?_⟩
    · exact refuses (by rw [refusal, if_pos full])
    rw [if_neg (by omega)] at refusal
    refine ⟨fun yes noReply => ?_, fun reply => ?_⟩
    · exact refuses (by rw [refusal, if_pos ⟨yes, noReply⟩])
    · have reserved : ¬(confirm = true ∧ s.replyFree < 2) := by
        rintro ⟨rfl, noReply⟩
        rcases reply with no | free
        · cases no
        · omega
      exact relay_places length takes lane named passes flag (by rw [refusal, if_neg reserved])

end Sys2Proof.Machine
end

section
/-! PROOF. What a command can change at all: the blocks of the state it reaches, for every row of the command
table, and with it that every command completes (O3). -/

namespace Sys2Proof.Machine

-- One proof after the other: many at once ask for too many threads.
set_option Elab.async false

/-! ## Blocks and what leaves them alone -/

/-- The blocks of the state. `clock` is device time, the trunk rate and the hold; `waiting` the waiting commands. -/
inductive Block where
  | waiting | clock | map | records | servicePointer | periodTimers | slots | routing | stack | alertCounter
  | lanes | pairs | link | out | mgmt | cuts
  deriving DecidableEq

/-- State `t` is state `s` but for these blocks. -/
structure Changes (bs : List Block) (s t : State) : Prop where
  waiting : .waiting ∉ bs → t.pending = s.pending
  clock : .clock ∉ bs → t.inReset = s.inReset ∧ t.deviceTime = s.deviceTime ∧ t.trunkRate = s.trunkRate
  map : .map ∉ bs → t.map = s.map
  records : .records ∉ bs → t.records = s.records
  servicePointer : .servicePointer ∉ bs → t.servicePointer = s.servicePointer
  periodTimers : .periodTimers ∉ bs → t.periodTimers = s.periodTimers
  slots : .slots ∉ bs → t.slots = s.slots
  routing : .routing ∉ bs → t.routing = s.routing
  stack : .stack ∉ bs → t.stack = s.stack
  alertCounter : .alertCounter ∉ bs → t.alertCounter = s.alertCounter
  lanes : .lanes ∉ bs → t.lanes = s.lanes
  pairs : .pairs ∉ bs → t.pairs = s.pairs
  link : .link ∉ bs → t.link = s.link
  out : .out ∉ bs → t.out = s.out
  mgmt : .mgmt ∉ bs → t.mgmt = s.mgmt
  cuts : .cuts ∉ bs → t.cuts = s.cuts

namespace Changes

variable {as bs : List Block} {s t u : State}

theorem refl (bs : List Block) (s : State) : Changes bs s s := by constructor <;> simp

theorem trans (h : Changes bs s t) (g : Changes bs t u) : Changes bs s u where
  waiting n := (g.waiting n).trans (h.waiting n)
  clock n := by
    obtain ⟨hold, time, rate⟩ := h.clock n
    obtain ⟨hold', time', rate'⟩ := g.clock n
    exact ⟨hold'.trans hold, time'.trans time, rate'.trans rate⟩
  map n := (g.map n).trans (h.map n)
  records n := (g.records n).trans (h.records n)
  servicePointer n := (g.servicePointer n).trans (h.servicePointer n)
  periodTimers n := (g.periodTimers n).trans (h.periodTimers n)
  slots n := (g.slots n).trans (h.slots n)
  routing n := (g.routing n).trans (h.routing n)
  stack n := (g.stack n).trans (h.stack n)
  alertCounter n := (g.alertCounter n).trans (h.alertCounter n)
  lanes n := (g.lanes n).trans (h.lanes n)
  pairs n := (g.pairs n).trans (h.pairs n)
  link n := (g.link n).trans (h.link n)
  out n := (g.out n).trans (h.out n)
  mgmt n := (g.mgmt n).trans (h.mgmt n)
  cuts n := (g.cuts n).trans (h.cuts n)

theorem mono (h : Changes as s t) (more : as ⊆ bs) : Changes bs s t where
  waiting n := h.waiting fun m => n (more m)
  clock n := h.clock fun m => n (more m)
  map n := h.map fun m => n (more m)
  records n := h.records fun m => n (more m)
  servicePointer n := h.servicePointer fun m => n (more m)
  periodTimers n := h.periodTimers fun m => n (more m)
  slots n := h.slots fun m => n (more m)
  routing n := h.routing fun m => n (more m)
  stack n := h.stack fun m => n (more m)
  alertCounter n := h.alertCounter fun m => n (more m)
  lanes n := h.lanes fun m => n (more m)
  pairs n := h.pairs fun m => n (more m)
  link n := h.link fun m => n (more m)
  out n := h.out fun m => n (more m)
  mgmt n := h.mgmt fun m => n (more m)
  cuts n := h.cuts fun m => n (more m)

/-- A fold changes what each of its steps changes. -/
theorem foldl {α : Type} {step : State → α → State} (each : ∀ u x, Changes bs u (step u x)) (xs : List α)
    (s : State) : Changes bs s (xs.foldl step s) := by
  induction xs generalizing s with
  | nil => exact refl bs s
  | cons x xs ih => exact (each s x).trans (ih (step s x))

end Changes

variable (s : State)

/-! ## Shared operations -/

theorem wakeCheck_changes : Changes [.link, .out] s (wakeCheck s) := by
  obtain ⟨link, out, e, -⟩ := wakeCheck_frame s
  rw [e]
  constructor <;> simp

theorem raiseInto_changes (slot : Option SlotId) (c : Cause) :
    Changes [.slots, .link, .out] s (raiseInto slot c s) := by
  obtain ⟨slots, link, out, e, -⟩ := raiseInto_frame s slot c
  rw [e]
  constructor <;> simp

theorem raiseDevice_changes (d : DeviceCause) : Changes [.slots, .link, .out] s (raiseDevice d s) :=
  raiseInto_changes s _ _

theorem offerData_changes (m : Message) : Changes [.slots, .out] s (offerData m s) := by
  obtain ⟨slots, out, e, -⟩ := offerData_frame s m
  rw [e]
  constructor <;> simp

theorem faultPoint_changes (p : PointId) :
    Changes [.map, .records, .slots, .link, .out] s (faultPoint p s) := by
  rw [faultPoint_eq]
  refine .trans ?_ ((raiseDevice_changes _ _).mono (by simp))
  constructor <;> simp

theorem faultGroup_changes (g : GroupId) :
    Changes [.map, .periodTimers, .slots, .link, .out] s (faultGroup g s) := by
  rw [faultGroup_eq]
  refine .trans ?_ ((raiseDevice_changes _ _).mono (by simp))
  constructor <;> simp

theorem assembleReport_changes (g : GroupId) (origin : Origin) :
    Changes [.map, .periodTimers, .slots, .link, .out] s (assembleReport g origin s) := by
  unfold assembleReport
  dsimp only
  split
  · exact .refl _ s
  split
  · exact faultGroup_changes s g
  split
  · exact .refl _ s
  · exact (offerData_changes s _).mono (by simp)

theorem teardown_changes : Changes [.slots, .stack, .pairs, .link, .out, .mgmt, .cuts] s (teardown s) := by
  unfold teardown
  constructor <;> simp

theorem becomeActive_changes : Changes [.link, .out] s (becomeActive s) := by
  unfold becomeActive
  constructor <;> simp

theorem endLongOp_changes (status : Status) (results : List Byte) :
    Changes [.out, .mgmt] s (endLongOp status results s) := by
  rw [endLongOp_eq]
  unfold longOpEnded
  constructor <;> simp

theorem disposeRelay_changes (k : PairId) : Changes [.pairs, .out, .cuts] s (disposeRelay k s) := by
  rw [disposeRelay_eq]
  constructor <;> simp

theorem relayOutcome_changes (k : PairId) (outcome : RelayOutcome) (f : RelayFrame) :
    Changes [.out] s (relayOutcome k outcome f s) := by
  rw [relayOutcome_eq]
  constructor <;> simp

theorem disableLane_changes (l : LaneId) :
    Changes [.records, .lanes, .pairs, .out, .cuts] s (disableLane l s) := by
  obtain ⟨lanes, records, closed, rfl, e, -⟩ := disableLane_eq s l
  have shut : Changes [.records, .lanes, .pairs, .out, .cuts] s { s with lanes := lanes, records := records } := by
    constructor <;> simp
  rw [e]
  split
  · exact shut.trans ((disposeRelay_changes _ _).mono (by simp))
  · exact shut

theorem enableLane_changes (l : LaneId) : Changes [.records, .lanes, .pairs] s (enableLane l s) := by
  obtain ⟨lanes, records, e, -⟩ := enableLane_eq s l
  rw [e]
  constructor <;> simp

theorem warmRestart_changes :
    Changes [.map, .records, .servicePointer, .periodTimers, .slots, .stack, .alertCounter, .lanes, .pairs,
      .link, .out, .mgmt, .cuts] s (warmRestart s) := by
  obtain ⟨slots, records, e, -⟩ := warmRestart_eq s
  rw [e]
  constructor <;> simp

/-! ## The Classifier -/

theorem lookup_changes (key : Key) :
    Changes [.map, .records, .slots, .link, .out] s (lookup key s).1 := by
  unfold lookup
  split
  · exact .refl _ s
  dsimp only
  split
  · exact .refl _ s
  split
  · exact .refl _ s
  · exact faultPoint_changes s _

theorem unmatchedSample_changes (key : Key) (f : Frame) (x : Reading) :
    Changes [.lanes, .slots, .out] s (unmatchedSample key f x s) := by
  have counted (x : Lane) : Changes [.lanes, .slots, .out] s (s.setLane key.lane x) := by
    constructor <;> simp
  unfold unmatchedSample
  dsimp only
  split
  · exact counted _
  · exact (counted _).trans ((offerData_changes _ _).mono (by simp))

theorem setRecord_changes (p : PointId) (r : RuntimeRecord) : Changes [.records] s (s.setRecord p r) := by
  constructor <;> simp

theorem forwardStage_changes (p : PointId) (e : PointEntry) (changed : Bool) (f : Frame) (x : Reading) :
    Changes [.records, .slots, .out] s (forwardStage p e changed f x s) := by
  unfold forwardStage
  dsimp only
  split
  · split
    · constructor <;> simp
    · exact (offerData_changes s _).mono (by simp)
  · exact .refl _ s

theorem groupStage_changes (p : PointId) :
    Changes [.map, .periodTimers, .slots, .link, .out] s (groupStage p s) := by
  refine .foldl (fun u g => ?_) _ s
  split
  · exact assembleReport_changes u g _
  · exact .refl _ u

theorem matchedSample_changes (p : PointId) (e : PointEntry) (f : Frame) (x : Reading) :
    Changes [.map, .records, .periodTimers, .slots, .link, .out] s (matchedSample p e f x s) := by
  unfold matchedSample
  dsimp only
  split
  · exact (setRecord_changes s p _).mono (by simp)
  · refine .trans (.trans ?_ ((forwardStage_changes _ p e _ f x).mono (by simp)))
      ((groupStage_changes _ p).mono (by simp))
    have recorded (r : RuntimeRecord) :
        Changes [.map, .records, .periodTimers, .slots, .link, .out] s (s.setRecord p r) :=
      (setRecord_changes s p r).mono (by simp)
    split
    · exact (recorded _).trans ((raiseInto_changes _ _ _).mono (by simp))
    · exact recorded _

/-- The blocks that the samples of a frame can change. -/
def sampleBlocks : List Block := [.map, .records, .periodTimers, .slots, .lanes, .link, .out]

theorem processSample_changes (l : LaneId) (f : Frame) (i : Nat) (x : Reading) :
    Changes sampleBlocks s (processSample l f i x s) := by
  have looked := lookup_changes s ⟨l, f.node, Fin.ofNat 16 (f.startIndex.val + i)⟩
  unfold processSample
  dsimp only
  split
  · rename_i s' found
    rw [found] at looked
    exact (looked.mono (by simp [sampleBlocks])).trans
      ((unmatchedSample_changes _ _ f x).mono (by simp [sampleBlocks]))
  · rename_i s' p e found
    rw [found] at looked
    exact (looked.mono (by simp [sampleBlocks])).trans
      ((matchedSample_changes _ p e f x).mono (by simp [sampleBlocks]))

theorem processSamples_changes (l : LaneId) (f : Frame) (i : Nat) (xs : List Reading) :
    Changes sampleBlocks s (processSamples l f i xs s) := by
  induction xs generalizing s i with
  | nil => exact .refl _ s
  | cons x xs ih => exact (processSample_changes s l f i x).trans (ih _ _)

theorem frameTakenEvent_changes :
    Changes (.servicePointer :: sampleBlocks) s (frameTakenEvent s) := by
  unfold frameTakenEvent
  split
  · exact .refl _ s
  split
  · exact .refl _ s
  · refine .trans ?_ ((processSamples_changes _ _ _ _ _).mono (by simp))
    constructor <;> simp [sampleBlocks]

/-! ## The other events -/

theorem laneFrameBeginEvent_changes (l : LaneId) : Changes [.lanes] s (laneFrameBeginEvent l s) := by
  unfold laneFrameBeginEvent
  split
  · exact .refl _ s
  · constructor <;> simp

theorem setLane_changes (l : LaneId) (x : Lane) : Changes [.lanes] s (s.setLane l x) := by
  constructor <;> simp

theorem frameEndEvent_changes (l : LaneId) (cause : FrameEndCause) (chars : List Byte) :
    Changes [.slots, .lanes, .link, .out] s (frameEndEvent l cause chars s) := by
  have ended (x : Lane) : Changes [.slots, .lanes, .link, .out] s (s.setLane l x) :=
    (setLane_changes s l x).mono (by simp)
  unfold frameEndEvent
  dsimp only
  split
  · exact .refl _ s
  split
  · exact .refl _ s
  split
  · exact ended _
  · split
    · exact ended _
    · split
      · exact (ended _).trans ((raiseDevice_changes _ _).mono (by simp))
      · exact ended _
  · exact .refl _ s
  · exact .refl _ s

theorem holdoffExpiryEvent_changes (l : LaneId) : Changes [.lanes] s (holdoffExpiryEvent l s) := by
  unfold holdoffExpiryEvent
  split
  · exact setLane_changes s l _
  · exact .refl _ s

theorem staleExpiryEvent_changes (p : PointId) :
    Changes [.records, .slots, .link, .out] s (staleExpiryEvent p s) := by
  have stale (r : RuntimeRecord) : Changes [.records, .slots, .link, .out] s (s.setRecord p r) :=
    (setRecord_changes s p r).mono (by simp)
  unfold staleExpiryEvent
  dsimp only
  split
  · split
    · exact (stale _).trans ((raiseInto_changes _ _ _).mono (by simp))
    · exact stale _
  · exact .refl _ s

theorem periodTimerExpiryEvent_changes (g : GroupId) :
    Changes [.map, .periodTimers, .slots, .link, .out] s (periodTimerExpiryEvent g s) := by
  unfold periodTimerExpiryEvent
  dsimp only
  split
  · refine .trans ?_ (assembleReport_changes _ g _)
    constructor <;> simp
  · exact .refl _ s

theorem advance_changes : Changes [.mgmt] s (advance s) := by
  unfold advance
  constructor <;> simp

theorem setMap_changes (m : MapStore) : Changes [.map] s (s.setMap m) := by
  constructor <;> simp

theorem copyActiveEntryEvent_changes : Changes [.map, .out, .mgmt] s (copyActiveEntryEvent s) := by
  have copied (m : MapStore) : Changes [.map, .out, .mgmt] s (advance (s.setMap m)) :=
    ((setMap_changes s m).mono (by simp)).trans ((advance_changes _).mono (by simp))
  unfold copyActiveEntryEvent
  dsimp only
  split
  · split
    · exact copied _
    · exact (copied _).trans ((endLongOp_changes _ _ _).mono (by simp))
  · exact .refl _ s

theorem checkPassEntryEvent_changes : Changes [.map, .out, .mgmt] s (checkPassEntryEvent s) := by
  have indexed (index : List KeyRow) : Changes [.map, .out, .mgmt] s (setPartialIndex index s) :=
    (setMap_changes s _).mono (by simp)
  have passed (index : List KeyRow) : Changes [.map, .out, .mgmt] s (advance (setPartialIndex index s)) :=
    (indexed index).trans ((advance_changes _).mono (by simp))
  unfold checkPassEntryEvent
  dsimp only
  split
  · split
    · exact (indexed _).trans ((endLongOp_changes _ _ _).mono (by simp))
    · next index _ =>
      split
      · exact passed index
      · refine (passed index).trans ?_
        unfold setPhase
        constructor <;> simp
  · exact .refl _ s

theorem commitCompletionEvent_changes :
    Changes [.map, .records, .periodTimers, .slots, .out, .mgmt] s (commitCompletionEvent s) := by
  unfold commitCompletionEvent
  dsimp only
  split
  · refine .trans ?_ ((endLongOp_changes _ _ _).mono (by simp))
    constructor <;> simp
  · exact .refl _ s

theorem captureEvent_changes : Changes [.slots, .stack, .alertCounter, .out] s (captureEvent s) := by
  unfold captureEvent
  split
  · exact .refl _ s
  · unfold captureSlot
    constructor <;> simp

theorem acknowledgementTimerExpiryEvent_changes (number : AlertNumber) :
    Changes [.slots, .stack, .link, .out] s (acknowledgementTimerExpiryEvent number s) := by
  unfold acknowledgementTimerExpiryEvent
  split
  · exact .refl _ s
  split
  · unfold repeatRecord
    split <;> constructor <;> simp
  · unfold lapseRecord
    dsimp only
    refine .trans ?_ ((raiseDevice_changes _ _).mono (by simp))
    split <;> constructor <;> simp

theorem owedRepeatPlacementEvent_changes : Changes [.stack, .out] s (owedRepeatPlacementEvent s) := by
  unfold owedRepeatPlacementEvent
  split
  · exact .refl _ s
  split
  · constructor <;> simp
  · exact .refl _ s

theorem transmissionStartEvent_changes : Changes [.stack, .out, .cuts] s (transmissionStartEvent s) := by
  unfold transmissionStartEvent
  split
  · constructor <;> simp
  · exact .refl _ s

theorem enterDormant_changes : Changes [.link, .out] s (enterDormant s) := by
  unfold enterDormant
  refine .trans ?_ (wakeCheck_changes _)
  constructor <;> simp

/-- The blocks that the completion of a transmission can change: a restart reply's restarts every block. -/
def restartBlocks : List Block :=
  [.map, .records, .servicePointer, .periodTimers, .slots, .stack, .alertCounter, .lanes, .pairs, .link, .out,
    .mgmt, .cuts]

theorem reportCompleted_changes (m : Message) : Changes restartBlocks s (reportCompleted m s) := by
  unfold reportCompleted
  split
  · constructor <;> simp [restartBlocks]
  · split
    · split
      · exact (enterDormant_changes s).mono (by simp [restartBlocks])
      · exact .refl _ s
    · split
      · exact warmRestart_changes s
      · exact .refl _ s
  · constructor <;> simp [restartBlocks]
  all_goals exact .refl _ s

theorem transmissionCompletionEvent_changes :
    Changes restartBlocks s (transmissionCompletionEvent s) := by
  unfold transmissionCompletionEvent
  split
  · exact .refl _ s
  · refine .trans ?_ (reportCompleted_changes _ _)
    constructor <;> simp [restartBlocks]

/-- The blocks that a teardown can change, the trunk's own among them. -/
def teardownBlocks : List Block := [.slots, .stack, .pairs, .link, .out, .mgmt, .cuts]

theorem setLink_changes (l : LinkControl) : Changes teardownBlocks s (s.setLink l) := by
  constructor <;> simp [teardownBlocks]

theorem restartSilence_changes : Changes teardownBlocks s (restartSilence s) := by
  unfold restartSilence
  constructor <;> simp [teardownBlocks]

theorem attachMessage_changes : Changes teardownBlocks s (attachMessage s) := by
  have placed (u : State) (m : Message) : Changes teardownBlocks u (placeReply m u) := by
    constructor <;> simp [teardownBlocks]
  have opened (u : State) : Changes teardownBlocks u (becomeActive u) :=
    (becomeActive_changes u).mono (by simp [teardownBlocks])
  unfold attachMessage
  dsimp only
  split
  · exact (opened _).trans (placed _ _)
  · exact ((teardown_changes s).trans (opened _)).trans (placed _ _)

theorem requestMessage_changes (payload : List Byte) :
    Changes teardownBlocks s (requestMessage payload s) := by
  have offered (u : State) : Changes teardownBlocks u (offerRequest payload u) := by
    unfold offerRequest
    split
    · exact setLink_changes u _
    · exact setLink_changes u _
  have opened : Changes teardownBlocks s (becomeActive s) :=
    (becomeActive_changes s).mono (by simp [teardownBlocks])
  unfold requestMessage
  split
  · exact setLink_changes s _
  · exact (restartSilence_changes s).trans (offered _)
  · exact opened.trans (offered _)
  · exact opened.trans (offered _)

theorem keepaliveMessage_changes : Changes teardownBlocks s (keepaliveMessage s) := by
  unfold keepaliveMessage
  split
  · exact .refl _ s
  · exact restartSilence_changes s
  all_goals exact (becomeActive_changes s).mono (by simp [teardownBlocks])

theorem validMessage_changes (kind : InboundKind) (payload : List Byte) :
    Changes teardownBlocks s (validMessage kind payload s) := by
  cases kind
  · exact (setLink_changes s _).trans (attachMessage_changes _)
  · exact (setLink_changes s _).trans (requestMessage_changes _ payload)
  · exact (setLink_changes s _).trans (keepaliveMessage_changes _)

theorem validMessageEvent_changes (kind : InboundKind) (payload : List Byte) :
    Changes teardownBlocks s (validMessageEvent kind payload s) := by
  unfold validMessageEvent
  split
  · exact validMessage_changes s kind payload
  · exact .refl _ s

theorem messageEndEvent_changes (cause : MessageEndCause) (chars : List Byte) :
    Changes teardownBlocks s (messageEndEvent cause chars s) := by
  unfold messageEndEvent
  split
  · exact .refl _ s
  dsimp only
  split
  · exact .refl _ s
  split
  · exact validMessage_changes s _ _
  · exact setLink_changes s _

theorem trunkMessageBeginEvent_changes : Changes [.link] s (trunkMessageBeginEvent s) := by
  unfold trunkMessageBeginEvent
  split
  · constructor <;> simp
  · exact .refl _ s

theorem silenceTimerExpiryEvent_changes : Changes teardownBlocks s (silenceTimerExpiryEvent s) := by
  unfold silenceTimerExpiryEvent
  split
  · exact teardown_changes s
  · exact .refl _ s

theorem wakeTimerExpiryEvent_changes : Changes teardownBlocks s (wakeTimerExpiryEvent s) := by
  unfold wakeTimerExpiryEvent
  split
  · split
    · unfold offerWake
      constructor <;> simp [teardownBlocks]
    · exact teardown_changes s
  · exact .refl _ s

theorem setSlot_changes (k : SlotId) (x : Slot) : Changes [.slots] s (s.setSlot k x) := by
  constructor <;> simp

theorem placeData_changes (m : Message) : Changes [.out] s (placeData m s) := by
  constructor <;> simp

theorem setPair_changes (k : PairId) (x : Pair) : Changes [.pairs] s (s.setPair k x) := by
  constructor <;> simp

theorem relayTransmissionStartEvent_changes (k : PairId) :
    Changes [.pairs, .cuts] s (relayTransmissionStartEvent k s) := by
  unfold relayTransmissionStartEvent
  dsimp only
  split
  · constructor <;> simp
  · exact .refl _ s

theorem relayTransmissionCompletionEvent_changes (k : PairId) :
    Changes [.pairs, .out] s (relayTransmissionCompletionEvent k s) := by
  unfold relayTransmissionCompletionEvent
  dsimp only
  split
  · exact ((setPair_changes s k _).mono (by simp)).trans ((relayOutcome_changes _ _ _ _).mono (by simp))
  · exact .refl _ s

theorem gapEndEvent_changes (k : PairId) : Changes [.pairs] s (gapEndEvent k s) := by
  unfold gapEndEvent
  dsimp only
  split
  · exact setPair_changes s k _
  · exact .refl _ s
  · exact .refl _ s

/-! ## Requests -/

/-- The blocks that an operation's own effect can change. -/
def operationBlocks (o : Operation) : List Block :=
  match o with
  | .readPoint | .readGroup | .readSlot | .readStack | .readLane | .readDevice | .restart | .enterDormant => []
  | .writePoint | .writeGroup | .clearShadow => [.map]
  | .copyActive => [.mgmt]
  | .commit => [.map, .mgmt]
  | .readCondition => [.records]
  | .setSlot | .clearSlot => [.slots]
  | .setRoute => [.routing]
  | .alertDone => [.stack, .out]
  | .setLane => [.records, .lanes, .pairs, .out, .cuts]
  | .clearLaneCounters => [.lanes]
  | .setPair | .relay => [.pairs]
  | .triggerGroup => [.map, .periodTimers, .slots, .link, .out]
  | .setTrunk => [.link]

theorem applySetLane_changes (l : LaneId) (on : Bool) (settings : LaneSettings) :
    Changes [.records, .lanes, .pairs, .out, .cuts] s (applySetLane l on settings s) := by
  have written (x : Lane) : Changes [.records, .lanes, .pairs, .out, .cuts] s (s.setLane l x) :=
    (setLane_changes s l x).mono (by simp)
  unfold applySetLane
  dsimp only
  split
  · split
    · exact .refl _ s
    · exact disableLane_changes s l
  · split
    · exact (written _).trans ((enableLane_changes _ l).mono (by simp))
    · exact written _

theorem triggerGroup_changes (tag : Tag) (g : GroupId) :
    Changes [.map, .periodTimers, .slots, .link, .out] s (triggerGroup tag g s).state := by
  unfold triggerGroup
  dsimp only
  split
  · exact .refl _ s
  split
  · exact faultGroup_changes s g
  split
  · exact .refl _ s
  split
  · exact .refl _ s
  · constructor <;> simp [answerOk]

/-! ### What each operation's own effect can be -/

section own

variable (tag : Tag) (o : List Byte)

theorem badIndex_state (index : Byte) : (badIndex index s).state = s := rfl
theorem badValue_state (field : Nat) : (badValue field s).state = s := rfl
theorem refuse_state (status : Status) (results : List Byte) : (refuse status results s).state = s := rfl
theorem answerOk_state (results : List Byte) : (answerOk results s).state = s := rfl

theorem readPointOwn_state : (readPointOwn tag o s).state = s := by
  unfold readPointOwn
  split <;> rfl

theorem readGroupOwn_state : (readGroupOwn tag o s).state = s := by
  unfold readGroupOwn
  split
  · rfl
  · split <;> rfl

theorem readSlotOwn_state : (readSlotOwn tag o s).state = s := by
  unfold readSlotOwn
  split <;> rfl

theorem readLaneOwn_state : (readLaneOwn tag o s).state = s := by
  unfold readLaneOwn
  split <;> rfl

theorem enterDormantOwn_state : (enterDormantOwn tag o s).state = s := by
  unfold enterDormantOwn
  split <;> rfl

theorem writePointOwn_state : (writePointOwn tag o s).state = s ∨
    ∃ p e, readPointEntry o.tail = .ok e ∧ (writePointOwn tag o s).state = storePoint p e s := by
  unfold writePointOwn
  split
  · exact .inl rfl
  · next e read => exact .inr ⟨_, e, read, rfl⟩

theorem writeGroupOwn_state : (writeGroupOwn tag o s).state = s ∨
    ∃ g e, readGroupEntry o.tail = .ok e ∧ (writeGroupOwn tag o s).state = storeGroup g e s := by
  unfold writeGroupOwn
  split
  · exact .inl rfl
  · split
    · exact .inl rfl
    · next g _ _ e read => exact .inr ⟨g, e, read, rfl⟩

theorem commitOwn_state : (commitOwn tag o s).state = s ∨
    (commitOwn tag o s).state = startLongOp .commit .checking tag (setPartialIndex [] s) := by
  unfold commitOwn
  split
  · exact .inl rfl
  · exact .inr rfl

theorem readConditionOwn_state : (readConditionOwn tag o s).state = s ∨
    ∃ p, (readConditionOwn tag o s).state =
      s.setRecord p { s.records[p] with samples := 0#32, gaps := 0#32, duplicates := 0#32 } := by
  unfold readConditionOwn
  dsimp only
  split
  · exact .inl rfl
  · rw [answerOk_state]
    split
    · exact .inr ⟨_, rfl⟩
    · exact .inl rfl

theorem setSlotOwn_state : (setSlotOwn tag o s).state = s ∨
    ∃ k level mask, (setSlotOwn tag o s).state =
      s.setSlot k { s.slots[k] with level := level, mask := mask } := by
  unfold setSlotOwn
  split
  · exact .inl rfl
  · split
    · split
      · exact .inl rfl
      · exact .inr ⟨_, _, _, rfl⟩
    · exact .inl rfl

theorem clearSlotOwn_state : (clearSlotOwn tag o s).state = s ∨
    ∃ k, (clearSlotOwn tag o s).state = s.setSlot k { s.slots[k] with causes := [], overflow := false } := by
  unfold clearSlotOwn
  split
  · exact .inl rfl
  · exact .inr ⟨_, rfl⟩

theorem setRouteOwn_state : (setRouteOwn tag o s).state = s ∨
    ∃ routing, (setRouteOwn tag o s).state = { s with routing := routing } := by
  unfold setRouteOwn
  split
  · exact .inl rfl
  · split
    · exact .inr ⟨_, rfl⟩
    · exact .inl rfl

theorem alertDoneOwn_state : (alertDoneOwn tag o s).state = s ∨
    ∃ top, s.stack.getLast? = some top ∧ (alertDoneOwn tag o s).state = popTop top s := by
  unfold alertDoneOwn
  dsimp only
  split
  · exact .inl rfl
  · next top last =>
    split
    · exact .inr ⟨top, last, rfl⟩
    · split <;> exact .inl rfl

theorem setLaneOwn_state : (setLaneOwn tag o s).state = s ∨
    ∃ l on settings, (setLaneOwn tag o s).state = applySetLane l on settings s := by
  unfold setLaneOwn
  split
  · exact .inl rfl
  · split
    · exact .inl rfl
    · dsimp only
      split
      · exact .inl rfl
      · exact .inr ⟨_, _, _, rfl⟩

theorem clearLaneCountersOwn_state : (clearLaneCountersOwn tag o s).state = s ∨
    ∃ l, (clearLaneCountersOwn tag o s).state =
      s.setLane l { s.lanes[l] with counters := LaneCounters.zero } := by
  unfold clearLaneCountersOwn
  split
  · exact .inl rfl
  · exact .inr ⟨_, rfl⟩

theorem setPairOwn_state : (setPairOwn tag o s).state = s ∨
    ∃ k mode, firstEnabled k s = none ∧
      (setPairOwn tag o s).state = s.setPair k { s.pairs[k] with mode := mode } := by
  unfold setPairOwn
  split
  · exact .inl rfl
  · next k _ =>
    split
    · exact .inl rfl
    · split
      · exact .inl rfl
      · next disabled => exact .inr ⟨k, _, disabled, rfl⟩

theorem relayOwn_state : (relayOwn tag o s).state = s ∨
    ∃ l confirm, firstFailure (relayRefusals l confirm s) = none ∧
      (relayOwn tag o s).state = placeRelay (pairOf l) (relayFrameOf tag o confirm) s := by
  unfold relayOwn
  split
  · exact .inl rfl
  · next l _ =>
    split
    · exact .inl rfl
    · dsimp only
      split
      · exact .inl rfl
      · next passes => exact .inr ⟨l, _, passes, rfl⟩

theorem setTrunkOwn_state : (setTrunkOwn tag o s).state = s ∨
    ∃ params, (setTrunkOwn tag o s).state =
      restartSilence (s.setLink { s.link with params := params }) := by
  unfold setTrunkOwn
  split
  · exact .inl rfl
  · exact .inr ⟨_, rfl⟩

/-- TRIGGER_GROUP changes nothing, faults its group, or places one report on a free entry (R117). -/
theorem triggerGroupOwn_state : (triggerGroupOwn tag o s).state = s ∨
    ∃ g, (triggerGroupOwn tag o s).state = faultGroup g s ∨
      (s.out.dataQ.length < 32 ∧
        (triggerGroupOwn tag o s).state =
          placeData (buildReport s g (s.activeGroup g).entry .request (some tag)) s) := by
  unfold triggerGroupOwn
  split
  · exact .inl rfl
  · next g _ =>
    unfold triggerGroup
    dsimp only
    split
    · exact .inl rfl
    split
    · exact .inr ⟨g, .inl rfl⟩
    split
    · exact .inl rfl
    split
    · exact .inl rfl
    · next room => exact .inr ⟨g, .inr ⟨Nat.lt_of_not_le room, rfl⟩⟩

end own

/-- An operation's own effect changes its own blocks alone. -/
theorem own_changes (o : Operation) (tag : Tag) (operands : List Byte) :
    Changes (operationBlocks o) s (o.own tag operands s).state := by
  have same {t : State} (e : t = s) : Changes (operationBlocks o) s t := by
    rw [e]
    exact .refl _ s
  cases o
  case readPoint => exact same (readPointOwn_state s tag operands)
  case readGroup => exact same (readGroupOwn_state s tag operands)
  case readSlot => exact same (readSlotOwn_state s tag operands)
  case readLane => exact same (readLaneOwn_state s tag operands)
  case enterDormant => exact same (enterDormantOwn_state s tag operands)
  case readStack => exact same rfl
  case readDevice => exact same rfl
  case restart => exact same rfl
  case writePoint =>
    rcases writePointOwn_state s tag operands with e | ⟨p, e, -, e'⟩
    · exact same e
    · exact e' ▸ setMap_changes s _
  case writeGroup =>
    rcases writeGroupOwn_state s tag operands with e | ⟨g, e, -, e'⟩
    · exact same e
    · exact e' ▸ setMap_changes s _
  case clearShadow => exact setMap_changes s _
  case copyActive =>
    show Changes [.mgmt] s (startLongOp .copyActive .copying tag s)
    unfold startLongOp
    constructor <;> simp
  case commit =>
    rcases commitOwn_state s tag operands with e | e
    · exact same e
    · show Changes [.map, .mgmt] s (commitOwn tag operands s).state
      rw [e]
      unfold startLongOp setPartialIndex
      constructor <;> simp
  case readCondition =>
    rcases readConditionOwn_state s tag operands with e | ⟨p, e⟩
    · exact same e
    · exact e ▸ setRecord_changes s p _
  case setSlot =>
    rcases setSlotOwn_state s tag operands with e | ⟨k, level, mask, e⟩
    · exact same e
    · exact e ▸ setSlot_changes s k _
  case clearSlot =>
    rcases clearSlotOwn_state s tag operands with e | ⟨k, e⟩
    · exact same e
    · exact e ▸ setSlot_changes s k _
  case setRoute =>
    rcases setRouteOwn_state s tag operands with e | ⟨routing, e⟩
    · exact same e
    · show Changes [.routing] s (setRouteOwn tag operands s).state
      rw [e]
      constructor <;> simp
  case alertDone =>
    rcases alertDoneOwn_state s tag operands with e | ⟨top, -, e⟩
    · exact same e
    · show Changes [.stack, .out] s (alertDoneOwn tag operands s).state
      rw [e]
      unfold popTop
      constructor <;> simp
  case setLane =>
    rcases setLaneOwn_state s tag operands with e | ⟨l, on, settings, e⟩
    · exact same e
    · exact e ▸ applySetLane_changes s l on settings
  case clearLaneCounters =>
    rcases clearLaneCountersOwn_state s tag operands with e | ⟨l, e⟩
    · exact same e
    · exact e ▸ setLane_changes s l _
  case setPair =>
    rcases setPairOwn_state s tag operands with e | ⟨k, mode, -, e⟩
    · exact same e
    · exact e ▸ setPair_changes s k _
  case relay =>
    rcases relayOwn_state s tag operands with e | ⟨l, confirm, -, e⟩
    · exact same e
    · exact e ▸ setPair_changes s (pairOf l) _
  case triggerGroup =>
    rcases triggerGroupOwn_state s tag operands with e | ⟨g, e | ⟨-, e⟩⟩
    · exact same e
    · exact e ▸ faultGroup_changes s g
    · exact e ▸ (placeData_changes s _).mono (by simp [operationBlocks])
  case setTrunk =>
    rcases setTrunkOwn_state s tag operands with e | ⟨params, e⟩
    · exact same e
    · show Changes [.link] s (setTrunkOwn tag operands s).state
      rw [e]
      unfold restartSilence
      constructor <;> simp

theorem executeTested_changes {bs : List Block} {own : Tag → List Byte → State → Execution}
    (each : ∀ tag operands u, Changes bs u (own tag operands u).state) (o : Operation) (tag : Tag)
    (operands : List Byte) : Changes bs s (executeTested o own tag operands s).state := by
  unfold executeTested
  split
  · exact .refl _ s
  split
  · exact .refl _ s
  · exact each tag operands s

/-- The take of a request reaches the inbound queue, the Reply queue and the cache beside the request's own
effect. -/
theorem takeEvent_changes {bs : List Block} {run : Tag → List Byte → State → Execution}
    (each : ∀ tag operands u, Changes bs u (run tag operands u).state) (names : Byte → Bool) :
    Changes (.link :: .out :: .mgmt :: bs) s (takeEvent names run s) := by
  have inbound (u : State) (rest : List (List Byte)) :
      Changes (.link :: .out :: .mgmt :: bs) u (setInbound rest u) := by
    unfold setInbound
    constructor <;> simp
  have cache (u : State) (entries : List CacheEntry) :
      Changes (.link :: .out :: .mgmt :: bs) u (setCache entries u) := by
    unfold setCache
    constructor <;> simp
  have placed (u : State) (m : Message) : Changes (.link :: .out :: .mgmt :: bs) u (placeReply m u) := by
    constructor <;> simp
  have closed (tag : Tag) (op : Byte) (x : Execution) :
      Changes (.link :: .out :: .mgmt :: bs) x.state (closeTake tag op x) := by
    unfold closeTake
    split
    · exact (cache _ _).trans (placed _ _)
    · exact cache _ _
  unfold takeEvent
  split
  · next rest _ =>
    split
    · refine (inbound s rest).trans ?_
      unfold disposeRequest
      split
      · split
        · exact placed _ _
        · exact .refl _ _
      · exact ((cache _ _).trans ((each _ _ _).mono (fun _ m => by simp [m]))).trans (closed _ _ _)
    · exact .refl _ s
  · exact .refl _ s

/-! ## Every command -/

/-- The event of the take of an operation's request. -/
def operationEvent (o : Operation) (s : State) : State :=
  takeEvent (fun op => op == o.code) (executeTested o o.own) s

theorem operationEvent_changes (o : Operation) :
    Changes (.link :: .out :: .mgmt :: operationBlocks o) s (operationEvent o s) :=
  takeEvent_changes s (fun tag operands u => executeTested_changes u (fun _ _ _ => own_changes _ o _ _) o tag
    operands) _

/-- The event of a command of a running part; a cold reset and its release are no such events. -/
def commandEvent (i : Instr) (s : State) : State :=
  match i with
  | .coldReset _ => s
  | .resetRelease _ => s
  | .frameEnd l cause chars => frameEndEvent l cause chars s
  | .holdoffExpiry l => holdoffExpiryEvent l s
  | .frameTaken => frameTakenEvent s
  | .staleExpiry p => staleExpiryEvent p s
  | .periodTimerExpiry g => periodTimerExpiryEvent g s
  | .copyActiveEntry => copyActiveEntryEvent s
  | .checkPassEntry => checkPassEntryEvent s
  | .commitCompletion => commitCompletionEvent s
  | .capture => captureEvent s
  | .acknowledgementTimerExpiry number => acknowledgementTimerExpiryEvent number s
  | .owedRepeatPlacement => owedRepeatPlacementEvent s
  | .transmissionStart => transmissionStartEvent s
  | .transmissionCompletion => transmissionCompletionEvent s
  | .messageEnd cause chars => messageEndEvent cause chars s
  | .attach payload => attachEvent payload s
  | .request payload => requestEvent payload s
  | .keepalive payload => keepaliveEvent payload s
  | .silenceTimerExpiry => silenceTimerExpiryEvent s
  | .wakeTimerExpiry => wakeTimerExpiryEvent s
  | .gapEnd k => gapEndEvent k s
  | .relayTransmissionStart k => relayTransmissionStartEvent k s
  | .relayTransmissionCompletion k => relayTransmissionCompletionEvent k s
  | .shortRequest => shortRequestEvent s
  | .badOp => takeEvent namesNoOperation (fun _ _ s => refuse .badOp [] s) s
  | .readPoint => operationEvent .readPoint s
  | .writePoint => operationEvent .writePoint s
  | .readGroup => operationEvent .readGroup s
  | .writeGroup => operationEvent .writeGroup s
  | .clearShadow => operationEvent .clearShadow s
  | .copyActive => operationEvent .copyActive s
  | .commit => operationEvent .commit s
  | .readCondition => operationEvent .readCondition s
  | .setSlot => operationEvent .setSlot s
  | .readSlot => operationEvent .readSlot s
  | .clearSlot => operationEvent .clearSlot s
  | .setRoute => operationEvent .setRoute s
  | .alertDone => operationEvent .alertDone s
  | .readStack => operationEvent .readStack s
  | .setLane => operationEvent .setLane s
  | .readLane => operationEvent .readLane s
  | .clearLaneCounters => operationEvent .clearLaneCounters s
  | .setPair => operationEvent .setPair s
  | .relay => operationEvent .relay s
  | .triggerGroup => operationEvent .triggerGroup s
  | .setTrunk => operationEvent .setTrunk s
  | .enterDormant => operationEvent .enterDormant s
  | .readDevice => operationEvent .readDevice s
  | .restart => operationEvent .restart s
  | .laneFrameBegin l => laneFrameBeginEvent l s
  | .trunkMessageBegin => trunkMessageBeginEvent s

/-- Every command but a cold reset and its release is an event of the running part. -/
theorem exec_event (i : Instr) (reset : ∀ c, i ≠ .coldReset c) (release : ∀ straps, i ≠ .resetRelease straps) :
    exec i s = running (commandEvent i) s := by
  cases i
  case coldReset c => exact absurd rfl (reset c)
  case resetRelease straps => exact absurd rfl (release straps)
  all_goals rfl

/-- The blocks that a command's event can change. -/
def commandBlocks (i : Instr) : List Block :=
  match i with
  | .coldReset _ | .resetRelease _ => []
  | .frameEnd _ _ _ => [.slots, .lanes, .link, .out]
  | .holdoffExpiry _ | .laneFrameBegin _ => [.lanes]
  | .frameTaken => .servicePointer :: sampleBlocks
  | .staleExpiry _ => [.records, .slots, .link, .out]
  | .periodTimerExpiry _ => [.map, .periodTimers, .slots, .link, .out]
  | .copyActiveEntry | .checkPassEntry => [.map, .out, .mgmt]
  | .commitCompletion => [.map, .records, .periodTimers, .slots, .out, .mgmt]
  | .capture => [.slots, .stack, .alertCounter, .out]
  | .acknowledgementTimerExpiry _ => [.slots, .stack, .link, .out]
  | .owedRepeatPlacement => [.stack, .out]
  | .transmissionStart => [.stack, .out, .cuts]
  | .transmissionCompletion => restartBlocks
  | .messageEnd _ _ | .attach _ | .request _ | .keepalive _ | .silenceTimerExpiry | .wakeTimerExpiry =>
    teardownBlocks
  | .gapEnd _ => [.pairs]
  | .relayTransmissionStart _ => [.pairs, .cuts]
  | .relayTransmissionCompletion _ => [.pairs, .out]
  | .shortRequest => [.link, .mgmt]
  | .trunkMessageBegin => [.link]
  | .badOp => [.link, .out, .mgmt]
  | .readPoint => .link :: .out :: .mgmt :: operationBlocks .readPoint
  | .writePoint => .link :: .out :: .mgmt :: operationBlocks .writePoint
  | .readGroup => .link :: .out :: .mgmt :: operationBlocks .readGroup
  | .writeGroup => .link :: .out :: .mgmt :: operationBlocks .writeGroup
  | .clearShadow => .link :: .out :: .mgmt :: operationBlocks .clearShadow
  | .copyActive => .link :: .out :: .mgmt :: operationBlocks .copyActive
  | .commit => .link :: .out :: .mgmt :: operationBlocks .commit
  | .readCondition => .link :: .out :: .mgmt :: operationBlocks .readCondition
  | .setSlot => .link :: .out :: .mgmt :: operationBlocks .setSlot
  | .readSlot => .link :: .out :: .mgmt :: operationBlocks .readSlot
  | .clearSlot => .link :: .out :: .mgmt :: operationBlocks .clearSlot
  | .setRoute => .link :: .out :: .mgmt :: operationBlocks .setRoute
  | .alertDone => .link :: .out :: .mgmt :: operationBlocks .alertDone
  | .readStack => .link :: .out :: .mgmt :: operationBlocks .readStack
  | .setLane => .link :: .out :: .mgmt :: operationBlocks .setLane
  | .readLane => .link :: .out :: .mgmt :: operationBlocks .readLane
  | .clearLaneCounters => .link :: .out :: .mgmt :: operationBlocks .clearLaneCounters
  | .setPair => .link :: .out :: .mgmt :: operationBlocks .setPair
  | .relay => .link :: .out :: .mgmt :: operationBlocks .relay
  | .triggerGroup => .link :: .out :: .mgmt :: operationBlocks .triggerGroup
  | .setTrunk => .link :: .out :: .mgmt :: operationBlocks .setTrunk
  | .enterDormant => .link :: .out :: .mgmt :: operationBlocks .enterDormant
  | .readDevice => .link :: .out :: .mgmt :: operationBlocks .readDevice
  | .restart => .link :: .out :: .mgmt :: operationBlocks .restart

theorem shortRequestEvent_changes : Changes [.link, .mgmt] s (shortRequestEvent s) := by
  unfold shortRequestEvent
  split
  · split
    · unfold setInbound
      constructor <;> simp
    · exact .refl _ s
  · exact .refl _ s

theorem commandEvent_changes (i : Instr) : Changes (commandBlocks i) s (commandEvent i s) := by
  cases i
  case coldReset => exact .refl _ s
  case resetRelease => exact .refl _ s
  case frameEnd l cause chars => exact frameEndEvent_changes s l cause chars
  case holdoffExpiry l => exact holdoffExpiryEvent_changes s l
  case frameTaken => exact frameTakenEvent_changes s
  case staleExpiry p => exact staleExpiryEvent_changes s p
  case periodTimerExpiry g => exact periodTimerExpiryEvent_changes s g
  case copyActiveEntry => exact copyActiveEntryEvent_changes s
  case checkPassEntry => exact checkPassEntryEvent_changes s
  case commitCompletion => exact commitCompletionEvent_changes s
  case capture => exact captureEvent_changes s
  case acknowledgementTimerExpiry number => exact acknowledgementTimerExpiryEvent_changes s number
  case owedRepeatPlacement => exact owedRepeatPlacementEvent_changes s
  case transmissionStart => exact transmissionStartEvent_changes s
  case transmissionCompletion => exact transmissionCompletionEvent_changes s
  case messageEnd cause chars => exact messageEndEvent_changes s cause chars
  case attach payload => exact validMessageEvent_changes s .attach payload
  case request payload => exact validMessageEvent_changes s .request payload
  case keepalive payload => exact validMessageEvent_changes s .keepalive payload
  case silenceTimerExpiry => exact silenceTimerExpiryEvent_changes s
  case wakeTimerExpiry => exact wakeTimerExpiryEvent_changes s
  case gapEnd k => exact gapEndEvent_changes s k
  case relayTransmissionStart k => exact relayTransmissionStartEvent_changes s k
  case relayTransmissionCompletion k => exact relayTransmissionCompletionEvent_changes s k
  case shortRequest => exact shortRequestEvent_changes s
  case badOp => exact takeEvent_changes s (fun _ _ u => .refl [] u) _
  case laneFrameBegin l => exact laneFrameBeginEvent_changes s l
  case trunkMessageBegin => exact trunkMessageBeginEvent_changes s
  all_goals exact operationEvent_changes s _

/-- Settles O3: every event leaves the waiting commands and the clock, and no event reaches a held part. -/
theorem commandsCompleteAndTheHeldPartIgnoresThem :
    Obligations.CommandsCompleteAndTheHeldPartIgnoresThem := by
  have held (i : Instr) (s : State) (hold : s.inReset = true) (reset : ∀ c, i ≠ .coldReset c)
      (release : ∀ straps, i ≠ .resetRelease straps) : exec i s = .next s := by
    rw [exec_event s i reset release, running_held s _ hold]
  refine ⟨fun i s => ?_, held⟩
  by_cases reset : ∃ c, i = .coldReset c
  · obtain ⟨c, rfl⟩ := reset
    exact ⟨_, rfl, rfl, fun other => absurd rfl (other c)⟩
  by_cases release : ∃ straps, i = .resetRelease straps
  · obtain ⟨straps, rfl⟩ := release
    refine ⟨_, rfl, ?_, fun _ other => absurd rfl (other straps)⟩
    split <;> rfl
  simp only [not_exists] at reset release
  cases hold : s.inReset with
  | true => exact ⟨s, held i s hold reset release, rfl, fun _ _ => ⟨rfl, rfl, hold⟩⟩
  | false =>
    have changed := commandEvent_changes s i
    have untouched : .waiting ∉ commandBlocks i ∧ .clock ∉ commandBlocks i := by
      cases i <;> simp [commandBlocks, operationBlocks, sampleBlocks, restartBlocks, teardownBlocks]
    obtain ⟨same, time, rate⟩ := changed.clock untouched.2
    exact ⟨commandEvent i s, by rw [exec_event s i reset release, running_released s _ hold],
      changed.waiting untouched.1, fun _ _ => ⟨time, rate, same.trans hold⟩⟩

end Sys2Proof.Machine
end

section
/-! PROOF. How a law is shown to be kept by every step: by the events of the commands that reach the blocks it
looks at; and for the Classifier, by the few operations that the stages of a sample are made of. -/

namespace Sys2Proof.Machine

-- One proof after the other: many at once ask for too many threads.
set_option Elab.async false

/-! ## From commands to steps -/

/-- A law looks at these blocks alone: a change of other blocks keeps it. -/
def LooksOnlyAt (blocks : List Block) (law : State → Prop) : Prop :=
  ∀ ⦃bs : List Block⦄ ⦃s t : State⦄, Changes bs s t → (∀ b ∈ blocks, b ∉ bs) → law s → law t

/-- A law that holds after every cold reset and that every event keeps is kept by every step, when it looks
neither at the clock nor at the waiting commands nor at the cut lines. -/
theorem kept_of_events {blocks : List Block} {law : State → Prop} (looks : LooksOnlyAt blocks law)
    (apart : ∀ b ∈ blocks, b ∉ [Block.waiting, .clock, .cuts])
    (reset : ∀ cause hold straps queue number, law (State.atColdReset cause hold straps queue number))
    (event : ∀ i s, law s → law (commandEvent i s)) : KeptByEveryStep law := by
  have kept : ∀ i s t, law s → exec i s = .next t → law t := by
    intro i s t legal done
    by_cases held : ∃ c, i = .coldReset c
    · obtain ⟨c, rfl⟩ := held
      cases done
      exact reset _ _ _ _ _
    by_cases release : ∃ straps, i = .resetRelease straps
    · obtain ⟨straps, rfl⟩ := release
      cases done
      split
      · refine looks (bs := [.waiting, .clock, .cuts]) ?_ apart legal
        constructor <;> simp
      · exact legal
    simp only [not_exists] at held release
    rw [exec_event s i held release] at done
    cases done
    split
    · exact legal
    · exact event i s legal
  intro s t legal done
  unfold step at done
  split at done
  · refine kept _ _ _ (looks (bs := [.waiting, .clock, .cuts]) ?_ apart legal) done
    constructor <;> simp
  · split at done
    · cases done
      exact legal
    · split at done
      · exact kept _ _ _ legal done
      · cases done
        refine looks (bs := [.waiting, .clock, .cuts]) ?_ apart legal
        unfold nextMillisecond
        constructor <;> simp

/-! ## Requests -/

/-- A law that looks neither at the inbound queue nor at the Reply queue nor at the cache is kept by a take when
the request's own effect keeps it. -/
structure BlindToTakes (law : State → Prop) : Prop where
  inbound : ∀ rest s, law s → law (setInbound rest s)
  cache : ∀ entries s, law s → law (setCache entries s)
  reply : ∀ m s, law s → law (placeReply m s)

theorem BlindToTakes.of_looksOnlyAt {blocks : List Block} {law : State → Prop}
    (looks : LooksOnlyAt blocks law) (apart : ∀ b ∈ blocks, b ∉ [Block.link, .out, .mgmt]) :
    BlindToTakes law := by
  refine ⟨fun rest s => looks (bs := [.link, .out, .mgmt]) ?_ apart,
    fun entries s => looks (bs := [.link, .out, .mgmt]) ?_ apart,
    fun m s => looks (bs := [.link, .out, .mgmt]) ?_ apart⟩
  · unfold setInbound
    constructor <;> simp
  · unfold setCache
    constructor <;> simp
  · constructor <;> simp

/-- A take does not occur, or removes the oldest request with room for its reply: then a cached reply is placed
again, the request is discarded, or it is executed (R187, R189). -/
theorem takeEvent_cases (names : Byte → Bool) (run : Tag → List Byte → State → Execution) (s : State) :
    takeEvent names run s = s ∨
    ∃ tag op operands rest, s.link.inbound = (tag :: op :: operands) :: rest ∧ 0 < s.replyFree ∧
      ((∃ r, takeEvent names run s = placeReply (.reply r) (setInbound rest s)) ∨
        takeEvent names run s = setInbound rest s ∨
        (cacheHit s.mgmt.cache tag op = none ∧
          takeEvent names run s = closeTake tag op (run tag operands (taken tag rest s)))) := by
  unfold takeEvent
  split
  · next tag op operands rest oldest =>
    split
    · next occurs =>
      refine .inr ⟨tag, op, operands, rest, oldest, occurs.2, ?_⟩
      unfold disposeRequest
      split
      · split
        · next r _ => exact .inl ⟨r, rfl⟩
        · exact .inr (.inl rfl)
      · next fresh => exact .inr (.inr ⟨fresh, rfl⟩)
    · exact .inl rfl
  · exact .inl rfl

theorem BlindToTakes.takeEvent {law : State → Prop} (blind : BlindToTakes law)
    {run : Tag → List Byte → State → Execution}
    (own : ∀ tag operands s, law s → law (run tag operands s).state) (names : Byte → Bool) {s : State}
    (legal : law s) : law (takeEvent names run s) := by
  rcases takeEvent_cases names run s with
    e | ⟨tag, op, operands, rest, -, -, ⟨r, e⟩ | e | ⟨-, e⟩⟩ <;> rw [e]
  · exact legal
  · exact blind.reply _ _ (blind.inbound rest s legal)
  · exact blind.inbound rest s legal
  · have ran := own tag operands _ (blind.cache (cacheRoom s.mgmt.cache tag) _ (blind.inbound rest s legal))
    unfold closeTake
    split
    · exact blind.reply _ _ (blind.cache _ _ ran)
    · exact blind.cache _ _ ran

theorem BlindToTakes.operationEvent {law : State → Prop} (blind : BlindToTakes law) {o : Operation}
    (own : ∀ tag operands s, law s → law (o.own tag operands s).state) {s : State} (legal : law s) :
    law (operationEvent o s) := by
  refine blind.takeEvent (fun tag operands u legal => ?_) _ legal
  unfold executeTested
  split
  · exact legal
  split
  · exact legal
  · exact own tag operands u legal

/-! ## The stages of a sample -/

/-- A law that each operation keeps of which the stages of a sample from lane `l` are made. -/
structure KeptBySamples (l : LaneId) (law : State → Prop) : Prop where
  raise : ∀ slot c s, law s → law (raiseInto slot c s)
  offer : ∀ m s, law s → law (offerData m s)
  faultPoint : ∀ p s, law s → law (faultPoint p s)
  faultGroup : ∀ g s, law s → law (faultGroup g s)
  count : ∀ s, law s → law (s.setLane l
    { s.lanes[l] with
      counters := { s.lanes[l].counters with unmatched := s.lanes[l].counters.unmatched + 1 } })
  place : ∀ m s, s.out.dataQ.length < 32 → s.link.state = .active → law s → law (placeData m s)
  remember : ∀ p s r, r.condition = s.records[p].condition → r.vote = s.records[p].vote →
    r.timer = s.records[p].timer → law s → law (s.setRecord p r)
  judge : ∀ key p s arrival x r, key.lane = l → lookup key s = (s, some (p, (s.activePoint p).entry)) →
    r.condition = s.records[p].condition → r.vote = s.records[p].vote → r.timer = s.records[p].timer → law s →
    law (s.setRecord p
      (conditionStage (s.activePoint p).entry arrival (staleStart s (s.activePoint p)) x r))

/-- A lookup faults a point, or changes nothing; what it finds is an unmarked entry of the active bank. -/
theorem lookup_cases (key : Key) (s : State) :
    lookup key s = (s, none) ∨ (∃ p, lookup key s = (faultPoint p s, none)) ∨
      ∃ p, lookup key s = (s, some (p, (s.activePoint p).entry)) := by
  cases row : keyLookup s.map.keyIndex key with
  | none => exact .inl (lookup_absent row)
  | some p =>
    cases mark : (s.activePoint p).mark with
    | true => exact .inl (lookup_marked row mark)
    | false =>
      by_cases agrees : pointAgrees (s.activePoint p) = true
      · exact .inr (.inr ⟨p, lookup_agrees row mark agrees⟩)
      · exact .inr (.inl ⟨p, lookup_disagrees row mark agrees⟩)

/-- An entry found by a lookup is unmarked and stands in the key index under the key. -/
theorem lookup_found {key : Key} {s : State} {p : PointId} {e : PointEntry}
    (found : lookup key s = (s, some (p, e))) :
    ⟨key, p⟩ ∈ s.map.keyIndex ∧ (s.activePoint p).mark = false ∧ e = (s.activePoint p).entry := by
  cases row : keyLookup s.map.keyIndex key with
  | none => rw [lookup_absent row] at found; cases found
  | some q =>
    have member : ⟨key, q⟩ ∈ s.map.keyIndex := by
      obtain ⟨⟨key', q'⟩, first, rfl⟩ := Option.map_eq_some_iff.mp row
      have here := List.find?_some first
      rw [beq_iff_eq] at here
      exact here ▸ List.mem_of_find?_eq_some first
    cases mark : (s.activePoint q).mark with
    | true => rw [lookup_marked row mark] at found; cases found
    | false =>
      by_cases agrees : pointAgrees (s.activePoint q) = true
      · rw [lookup_agrees row mark agrees] at found
        cases found
        exact ⟨member, mark, rfl⟩
      · rw [lookup_disagrees row mark agrees] at found
        exact nomatch congrArg Prod.snd found

namespace KeptBySamples

variable {l : LaneId} {law : State → Prop} (kept : KeptBySamples l law) {s : State} (legal : law s)
include kept legal

theorem assembleReport (g : GroupId) (origin : Origin) : law (assembleReport g origin s) := by
  unfold Machine.assembleReport
  dsimp only
  split
  · exact legal
  split
  · exact kept.faultGroup g s legal
  split
  · exact legal
  · exact kept.offer _ s legal

theorem groupStage (p : PointId) : law (groupStage p s) := by
  suffices all : ∀ gs : List GroupId, ∀ u, law u → law (gs.foldl (groupTurn p) u) from all _ s legal
  intro gs
  induction gs with
  | nil => exact fun u legal => legal
  | cons g gs ih =>
    intro u legal
    refine ih _ ?_
    unfold groupTurn
    split
    · exact kept.assembleReport legal g .onSample
    · exact legal

theorem forwardStage (p : PointId) (e : PointEntry) (changed : Bool) (f : Frame) (x : Reading) :
    law (forwardStage p e changed f x s) := by
  by_cases sent : forwards e changed s.records[p].lastForwarded x = true
  · by_cases accepts : s.dataAccepts = true
    · rw [forwardStage_accepted sent accepts]
      obtain ⟨active, room⟩ := dataAccepts_iff.mp accepts
      exact kept.place _ _ room active (kept.remember p s _ rfl rfl rfl legal)
    · rw [forwardStage_refused sent accepts]
      exact kept.offer _ s legal
  · rw [forwardStage_unsent sent]
    exact legal

theorem unmatchedSample {key : Key} (lane : key.lane = l) (f : Frame) (x : Reading) :
    law (unmatchedSample key f x s) := by
  subst lane
  have counted := kept.count s legal
  unfold Machine.unmatchedSample
  dsimp only
  split
  · exact counted
  · exact kept.offer _ _ counted

theorem matchedSample {key : Key} {p : PointId} (lane : key.lane = l)
    (found : lookup key s = (s, some (p, (s.activePoint p).entry))) (f : Frame) (x : Reading) :
    law (matchedSample p (s.activePoint p).entry f x s) := by
  unfold Machine.matchedSample
  dsimp only
  split
  · exact kept.remember p s _ rfl rfl rfl legal
  · apply kept.groupStage
    apply kept.forwardStage
    have judged := kept.judge key p s f.arrival x (sequenceStage f.sequence s.records[p]) lane found
      rfl rfl rfl legal
    split
    · exact kept.raise _ _ _ judged
    · exact judged

theorem processSample (f : Frame) (i : Nat) (x : Reading) : law (processSample l f i x s) := by
  unfold Machine.processSample
  dsimp only
  rcases lookup_cases ⟨l, f.node, Fin.ofNat 16 (f.startIndex.val + i)⟩ s with e | ⟨p, e⟩ | ⟨p, e⟩
  · rw [e]
    exact kept.unmatchedSample legal rfl f x
  · rw [e]
    exact kept.unmatchedSample (kept.faultPoint p s legal) rfl f x
  · rw [e]
    exact kept.matchedSample legal rfl e f x

theorem processSamples (f : Frame) (i : Nat) (xs : List Reading) : law (processSamples l f i xs s) := by
  induction xs generalizing s i with
  | nil => exact legal
  | cons x xs ih => exact ih (kept.processSample legal f i x) (i + 1)

end KeptBySamples

/-- A frame taken is the removal of the oldest frame of a lane, then its samples. -/
theorem frameTakenEvent_cases (s : State) : frameTakenEvent s = s ∨
    ∃ l f rest, s.lanes[l].fifo = f :: rest ∧
      frameTakenEvent s =
        processSamples l f 0 f.readings
          { s.setLane l { s.lanes[l] with fifo := rest } with servicePointer := l } := by
  unfold frameTakenEvent
  split
  · exact .inl rfl
  · next l _ =>
    split
    · exact .inl rfl
    · next f rest waits => exact .inr ⟨l, f, rest, waits, rfl⟩

/-- A frame taken keeps a law that the removal of the frame and the stages of its samples keep. -/
theorem frameTakenEvent_keeps {law : State → Prop} {s : State} (legal : law s)
    (removed : ∀ l f rest, s.lanes[l].fifo = f :: rest →
      law { s.setLane l { s.lanes[l] with fifo := rest } with servicePointer := l })
    (kept : ∀ l, KeptBySamples l law) : law (frameTakenEvent s) := by
  rcases frameTakenEvent_cases s with e | ⟨l, f, rest, waits, e⟩
  · rw [e]
    exact legal
  · rw [e]
    exact (kept l).processSamples (removed l f rest waits) f 0 f.readings

/-! ## The trunk's events -/

/-- A law that each operation keeps of which the trunk's events are made. -/
structure KeptByTrunk (law : State → Prop) : Prop where
  teardown : ∀ s, law s → law (teardown s)
  attach : ∀ s, s.link.state = .offline → law s → law (attachMessage s)
  active : ∀ s, law s → law (becomeActive s)
  silence : ∀ s, s.link.state = .active → law s → law (restartSilence s)
  receive : ∀ s receiver counters, law s →
    law (s.setLink { s.link with receiver := receiver, counters := counters })
  queue : ∀ s payload, s.link.state = .active → s.link.inbound.length < 4 → law s →
    law (s.setLink { s.link with inbound := s.link.inbound ++ [payload] })
  wake : ∀ s, s.link.wakeTimer ≠ none → law s →
    law (offerWake { s with link := { s.link with wakeTimer := wakeTimerStart s } })

/-- A law that looks neither at the link nor at the outbound side needs a teardown's case alone. -/
theorem KeptByTrunk.of_looksOnlyAt {blocks : List Block} {law : State → Prop} (looks : LooksOnlyAt blocks law)
    (apart : ∀ b ∈ blocks, b ∉ [Block.link, .out]) (torn : ∀ s, law s → law (Machine.teardown s)) :
    KeptByTrunk law where
  teardown := torn
  attach s offline legal := by
    unfold attachMessage
    rw [if_pos offline]
    refine looks (bs := [.link, .out]) ?_ apart legal
    refine (becomeActive_changes s).trans ?_
    constructor <;> simp
  active s legal := looks (becomeActive_changes s) apart legal
  silence s _ legal := by
    refine looks (bs := [.link, .out]) ?_ apart legal
    unfold restartSilence
    constructor <;> simp
  receive s receiver counters legal := by
    refine looks (bs := [.link, .out]) ?_ apart legal
    constructor <;> simp
  queue s payload _ _ legal := by
    refine looks (bs := [.link, .out]) ?_ apart legal
    constructor <;> simp
  wake s _ legal := by
    refine looks (bs := [.link, .out]) ?_ apart legal
    unfold offerWake
    constructor <;> simp

namespace KeptByTrunk

variable {law : State → Prop} (kept : KeptByTrunk law) {s : State} (legal : law s)
include kept legal

theorem attachMessage : law (attachMessage s) := by
  by_cases offline : s.link.state = .offline
  · exact kept.attach s offline legal
  · have torn : Machine.attachMessage s = Machine.attachMessage (Machine.teardown s) := by
      unfold Machine.attachMessage
      rw [if_neg offline, if_pos (show (Machine.teardown s).link.state = .offline from rfl)]
    rw [torn]
    exact kept.attach _ rfl (kept.teardown s legal)

theorem offerRequest (active : s.link.state = .active) (payload : List Byte) :
    law (offerRequest payload s) := by
  unfold Machine.offerRequest
  split
  · next room => exact kept.queue s payload active room legal
  · exact kept.receive s _ _ legal

theorem requestMessage (payload : List Byte) : law (requestMessage payload s) := by
  unfold Machine.requestMessage
  split
  · exact kept.receive s _ _ legal
  · next active => exact kept.offerRequest (kept.silence s active legal) active payload
  all_goals exact kept.offerRequest (kept.active s legal) rfl payload

theorem keepaliveMessage : law (keepaliveMessage s) := by
  unfold Machine.keepaliveMessage
  split
  · exact legal
  · next active => exact kept.silence s active legal
  all_goals exact kept.active s legal

theorem validMessage (kind : InboundKind) (payload : List Byte) : law (validMessage kind payload s) := by
  have hunt : law (receiverHunt s) := kept.receive s _ _ legal
  cases kind
  · exact kept.attachMessage hunt
  · exact kept.requestMessage hunt payload
  · exact kept.keepaliveMessage hunt

theorem validMessageEvent (kind : InboundKind) (payload : List Byte) :
    law (validMessageEvent kind payload s) := by
  unfold Machine.validMessageEvent
  split
  · exact kept.validMessage legal kind payload
  · exact legal

theorem messageEndEvent (cause : MessageEndCause) (chars : List Byte) :
    law (messageEndEvent cause chars s) := by
  unfold Machine.messageEndEvent
  split
  · exact legal
  dsimp only
  split
  · exact legal
  split
  · exact kept.validMessage legal _ _
  · exact kept.receive s _ _ legal

theorem trunkMessageBeginEvent : law (trunkMessageBeginEvent s) := by
  unfold Machine.trunkMessageBeginEvent
  split
  · exact kept.receive s _ _ legal
  · exact legal

theorem silenceTimerExpiryEvent : law (silenceTimerExpiryEvent s) := by
  unfold Machine.silenceTimerExpiryEvent
  split
  · exact kept.teardown s legal
  · exact legal

theorem wakeTimerExpiryEvent : law (wakeTimerExpiryEvent s) := by
  unfold Machine.wakeTimerExpiryEvent
  split
  · next due =>
    split
    · refine kept.wake s (fun stopped => ?_) legal
      rw [stopped] at due
      cases due
    · exact kept.teardown s legal
  · exact legal

end KeptByTrunk

/-! ## The completion of a transmission -/

/-- A law that each report of a completed transmission keeps. -/
structure KeptByCompletion (law : State → Prop) : Prop where
  idle : ∀ s, law s → law (s.setOut { s.out with sending := none })
  alert : ∀ a s, law s → law (s.setStack (reportCompletion a s))
  dormant : ∀ s, s.mayEnterDormant = true → law s → law (enterDormant s)
  restart : ∀ s, law s → law (warmRestart s)
  told : ∀ s, law s → law (s.setLink { s.link with restartCause := .none })

/-- A law that looks neither at the link nor at the outbound side nor at the stack needs a restart's case
alone. -/
theorem KeptByCompletion.of_looksOnlyAt {blocks : List Block} {law : State → Prop}
    (looks : LooksOnlyAt blocks law) (apart : ∀ b ∈ blocks, b ∉ [Block.link, .out, .stack])
    (restart : ∀ s, law s → law (warmRestart s)) : KeptByCompletion law where
  idle s legal := by
    refine looks (bs := [.link, .out, .stack]) ?_ apart legal
    constructor <;> simp
  alert a s legal := by
    refine looks (bs := [.link, .out, .stack]) ?_ apart legal
    constructor <;> simp
  dormant s _ legal := looks ((enterDormant_changes s).mono (by simp)) apart legal
  restart := restart
  told s legal := by
    refine looks (bs := [.link, .out, .stack]) ?_ apart legal
    constructor <;> simp

theorem KeptByCompletion.transmissionCompletionEvent {law : State → Prop} (kept : KeptByCompletion law)
    {s : State} (legal : law s) : law (transmissionCompletionEvent s) := by
  unfold Machine.transmissionCompletionEvent
  split
  · exact legal
  have idle := kept.idle s legal
  unfold reportCompleted
  split
  · exact kept.alert _ _ idle
  · split
    · split
      · next may => exact kept.dormant _ may idle
      · exact idle
    · split
      · exact kept.restart _ idle
      · exact idle
  · exact kept.told _ idle
  all_goals exact idle

end Sys2Proof.Machine
end

section
/-! PROOF. Every step keeps every slot's cause set legal (O53): a raise keeps it, and every other rewrite of a
slot drops causes or keeps them. -/

namespace Sys2Proof.Machine

-- One proof after the other: many at once ask for too many threads.
set_option Elab.async false

variable {s : State}

theorem slotsLegal_looks : LooksOnlyAt [.slots] State.slotsLegal := by
  intro bs s t changed apart legal
  unfold State.slotsLegal
  rw [changed.slots (apart _ (by simp))]
  exact legal

/-- A slot that keeps a part of its causes, in their order, stays legal. -/
theorem Slot.legal_of_sublist {old new : Slot} (legal : old.legal) (part : new.causes.Sublist old.causes) :
    new.legal :=
  ⟨part.length_le.trans legal.1, legal.2.sublist part⟩

theorem raiseInto_slotsLegal (slot : Option SlotId) (c : Cause) (legal : s.slotsLegal) :
    (raiseInto slot c s).slotsLegal := by
  obtain ⟨slots, link, out, e, raised, -⟩ := raiseInto_frame s slot c
  rw [e]
  intro k
  show slots[k].legal
  rw [raised k]
  split
  · exact Slot.raise_legal c (legal k)
  · exact legal k

theorem raiseDevice_slotsLegal (d : DeviceCause) (legal : s.slotsLegal) : (raiseDevice d s).slotsLegal :=
  raiseInto_slotsLegal _ _ legal

theorem setSlot_slotsLegal (k : SlotId) {x : Slot} (new : x.legal) (legal : s.slotsLegal) :
    (s.setSlot k x).slotsLegal := by
  intro j
  rw [State.setSlot_slots, rowSet_apply]
  split
  · exact new
  · exact legal j

theorem offerData_slotsLegal (m : Message) (legal : s.slotsLegal) : (offerData m s).slotsLegal := by
  rcases offerData_cases s m with ⟨-, e⟩ | ⟨-, -, e⟩ | ⟨-, -, e⟩ <;> rw [e]
  · exact legal
  · exact legal
  · exact raiseDevice_slotsLegal _ legal

theorem faultGroup_slotsLegal (g : GroupId) (legal : s.slotsLegal) : (faultGroup g s).slotsLegal := by
  rw [faultGroup_eq]
  exact raiseDevice_slotsLegal _ legal

theorem slotsLegal_keptBySamples (l : LaneId) : KeptBySamples l State.slotsLegal where
  raise slot c _ := raiseInto_slotsLegal slot c
  offer m _ := offerData_slotsLegal m
  faultPoint p s legal := by
    rw [faultPoint_eq]
    exact raiseDevice_slotsLegal _ legal
  faultGroup g _ := faultGroup_slotsLegal g
  count _ legal := legal
  place _ _ _ _ legal := legal
  remember _ _ _ _ _ _ legal := legal
  judge _ _ _ _ _ _ _ _ _ _ _ legal := legal

theorem frameEndEvent_slotsLegal (l : LaneId) (cause : FrameEndCause) (chars : List Byte)
    (legal : s.slotsLegal) : (frameEndEvent l cause chars s).slotsLegal := by
  unfold frameEndEvent
  dsimp only
  split
  · exact legal
  split
  · exact legal
  split
  · exact legal
  · split
    · exact legal
    · split
      · exact raiseDevice_slotsLegal _ legal
      · exact legal
  · exact legal
  · exact legal

theorem staleExpiryEvent_slotsLegal (p : PointId) (legal : s.slotsLegal) :
    (staleExpiryEvent p s).slotsLegal := by
  unfold staleExpiryEvent
  dsimp only
  split
  · split
    · exact raiseInto_slotsLegal _ _ legal
    · exact legal
  · exact legal

theorem periodTimerExpiryEvent_slotsLegal (g : GroupId) (legal : s.slotsLegal) :
    (periodTimerExpiryEvent g s).slotsLegal := by
  unfold periodTimerExpiryEvent
  dsimp only
  split
  · exact (slotsLegal_keptBySamples 0).assembleReport (show State.slotsLegal (s.setPeriodTimer g _) from legal) g _
  · exact legal

theorem commitCompletionEvent_slotsLegal (legal : s.slotsLegal) : (commitCompletionEvent s).slotsLegal := by
  unfold commitCompletionEvent
  dsimp only
  split
  · refine slotsLegal_looks (endLongOp_changes _ _ _) (by simp) fun k => ?_
    show (rowsMap (fun _ sl => pruneSlot s sl) s.slots)[k].legal
    rw [rowsMap_apply]
    exact Slot.legal_of_sublist (legal k) List.filter_sublist
  · exact legal

theorem captureEvent_slotsLegal (legal : s.slotsLegal) : (captureEvent s).slotsLegal := by
  unfold captureEvent
  split
  · exact legal
  · next k _ => exact setSlot_slotsLegal k (Slot.legal_of_sublist (legal k) (List.nil_sublist _)) legal

theorem acknowledgementTimerExpiryEvent_slotsLegal (number : AlertNumber) (legal : s.slotsLegal) :
    (acknowledgementTimerExpiryEvent number s).slotsLegal := by
  unfold acknowledgementTimerExpiryEvent
  split
  · exact legal
  split
  · unfold repeatRecord
    split <;> exact legal
  · refine raiseDevice_slotsLegal _ ?_
    split <;> exact legal

theorem teardown_slotsLegal (legal : s.slotsLegal) : (teardown s).slotsLegal :=
  mergeBack_legal s.stack legal

theorem warmRestart_slotsLegal (legal : s.slotsLegal) : (warmRestart s).slotsLegal := by
  obtain ⟨slots, records, e, each, -⟩ := warmRestart_eq s
  rw [e]
  intro k
  have emptied : s.slots[k].warmRestart.legal := Slot.legal_of_sublist (legal k) (List.nil_sublist _)
  show slots[k].legal
  rw [each k]
  split
  · exact Slot.raise_legal _ emptied
  · exact emptied

theorem slotsLegal_keptByTrunk : KeptByTrunk State.slotsLegal :=
  .of_looksOnlyAt slotsLegal_looks (by simp) fun _ => teardown_slotsLegal

theorem slotsLegal_keptByCompletion : KeptByCompletion State.slotsLegal :=
  .of_looksOnlyAt slotsLegal_looks (by simp) fun _ => warmRestart_slotsLegal

theorem commandEvent_slotsLegal (i : Instr) (s : State) (legal : s.slotsLegal) :
    (commandEvent i s).slotsLegal := by
  have blind : BlindToTakes State.slotsLegal := .of_looksOnlyAt slotsLegal_looks (by simp)
  cases i
  case frameEnd l cause chars => exact frameEndEvent_slotsLegal l cause chars legal
  case frameTaken => exact frameTakenEvent_keeps legal (fun _ _ _ _ => legal) slotsLegal_keptBySamples
  case staleExpiry p => exact staleExpiryEvent_slotsLegal p legal
  case periodTimerExpiry g => exact periodTimerExpiryEvent_slotsLegal g legal
  case commitCompletion => exact commitCompletionEvent_slotsLegal legal
  case capture => exact captureEvent_slotsLegal legal
  case acknowledgementTimerExpiry number => exact acknowledgementTimerExpiryEvent_slotsLegal number legal
  case transmissionCompletion => exact slotsLegal_keptByCompletion.transmissionCompletionEvent legal
  case messageEnd cause chars => exact slotsLegal_keptByTrunk.messageEndEvent legal cause chars
  case attach payload => exact slotsLegal_keptByTrunk.validMessageEvent legal .attach payload
  case request payload => exact slotsLegal_keptByTrunk.validMessageEvent legal .request payload
  case keepalive payload => exact slotsLegal_keptByTrunk.validMessageEvent legal .keepalive payload
  case silenceTimerExpiry => exact slotsLegal_keptByTrunk.silenceTimerExpiryEvent legal
  case wakeTimerExpiry => exact slotsLegal_keptByTrunk.wakeTimerExpiryEvent legal
  case setSlot =>
    refine blind.operationEvent (o := .setSlot) (fun tag o u legal => ?_) legal
    rcases setSlotOwn_state u tag o with e | ⟨k, level, mask, e⟩
    · exact e.symm ▸ legal
    · exact e.symm ▸ setSlot_slotsLegal k (legal k) legal
  case clearSlot =>
    refine blind.operationEvent (o := .clearSlot) (fun tag o u legal => ?_) legal
    rcases clearSlotOwn_state u tag o with e | ⟨k, e⟩
    · exact e.symm ▸ legal
    · exact e.symm ▸ setSlot_slotsLegal k (Slot.legal_of_sublist (legal k) (List.nil_sublist _)) legal
  case triggerGroup =>
    refine blind.operationEvent (o := .triggerGroup) (fun tag o u legal => ?_) legal
    rcases triggerGroupOwn_state u tag o with e | ⟨g, e | ⟨-, e⟩⟩
    · exact e.symm ▸ legal
    · exact e.symm ▸ faultGroup_slotsLegal g legal
    · exact e.symm ▸ legal
  all_goals
    exact slotsLegal_looks (commandEvent_changes s _) (by simp [commandBlocks, operationBlocks]) legal

theorem atColdReset_slotsLegal (cause : RestartCause) (hold : Bool) (straps : Fin 8) (queue : List Instr)
    (number : Nat) : (State.atColdReset cause hold straps queue number).slotsLegal := by
  intro k
  show slotsColdReset[k].legal
  unfold slotsColdReset slotsColdReset.rowZero Slot.legal
  revert k
  decide

/-- Settles O53: case by case over the events: every slot an event leaves has had raises, a merge-back or an
emptying alone. -/
theorem everyStepKeepsCauseSetsLegal : Obligations.EveryStepKeepsCauseSetsLegal :=
  kept_of_events slotsLegal_looks (by simp) atColdReset_slotsLegal commandEvent_slotsLegal

end Sys2Proof.Machine
end

section
/-! PROOF. Every step keeps every lane's counters in balance (O55): each frame end counts itself and one
outcome, and every other rewrite of a lane keeps its counters or clears them. -/

namespace Sys2Proof.Machine

-- One proof after the other: many at once ask for too many threads.
set_option Elab.async false

variable {s : State}

theorem lanesBalanced_looks : LooksOnlyAt [.lanes] State.lanesBalanced := by
  intro bs s t changed apart legal
  unfold State.lanesBalanced
  rw [changed.lanes (apart _ (by simp))]
  exact legal

theorem setLane_lanesBalanced (l : LaneId) {x : Lane} (new : x.counters.balanced) (legal : s.lanesBalanced) :
    (s.setLane l x).lanesBalanced := by
  intro i
  rw [State.setLane_lanes, rowSet_apply]
  split
  · exact new
  · exact legal i

theorem LaneCounters.zero_balanced : LaneCounters.zero.balanced := by
  unfold LaneCounters.balanced
  decide

/-! ## Frame ends (R129 to R133) -/

theorem Lane.drop_balanced {x : Lane} (h : x.counters.balanced) : x.drop.counters.balanced := by
  unfold LaneCounters.balanced at h
  unfold Lane.drop LaneCounters.balanced
  split <;> simp only [h] <;> ac_rfl

theorem Lane.accept_balanced {x : Lane} (f : Frame) (h : x.counters.balanced) :
    (x.accept f).counters.balanced := by
  unfold LaneCounters.balanced at h
  unfold Lane.accept LaneCounters.balanced
  split <;> simp only [h] <;> ac_rfl

theorem LaneCounters.countError_balanced {c : LaneCounters} (v : FrameVerdict) (h : c.balanced) :
    (c.countError v).balanced := by
  cases v
  case good => exact h
  all_goals
    unfold LaneCounters.balanced at h
    unfold LaneCounters.countError LaneCounters.balanced
    simp only [h]
    ac_rfl

theorem Lane.error_balanced {x : Lane} (now : Time) (v : FrameVerdict) (h : x.counters.balanced) :
    (x.error now v).counters.balanced := by
  unfold Lane.error
  dsimp only
  split <;> exact LaneCounters.countError_balanced v h

theorem frameEndEvent_lanesBalanced (l : LaneId) (cause : FrameEndCause) (chars : List Byte)
    (legal : s.lanesBalanced) : (frameEndEvent l cause chars s).lanesBalanced := by
  unfold frameEndEvent
  dsimp only
  split
  · exact legal
  split
  · exact legal
  split
  · exact setLane_lanesBalanced l (Lane.drop_balanced (legal l)) legal
  · split
    · exact setLane_lanesBalanced l (Lane.accept_balanced _ (legal l)) legal
    · have ended (v : FrameVerdict) : (s.setLane l (s.lanes[l].error s.deviceTime v)).lanesBalanced :=
        setLane_lanesBalanced l (Lane.error_balanced s.deviceTime v (legal l)) legal
      split
      · exact lanesBalanced_looks (raiseDevice_changes _ _) (by simp) (ended _)
      · exact ended _
  · exact legal
  · exact legal

/-! ## The other events -/

theorem holdoffExpiryEvent_lanesBalanced (l : LaneId) (legal : s.lanesBalanced) :
    (holdoffExpiryEvent l s).lanesBalanced := by
  have kept : s.lanes[l].holdoffEnd.counters = s.lanes[l].counters := by
    unfold Lane.holdoffEnd
    split <;> rfl
  unfold holdoffExpiryEvent
  split
  · exact setLane_lanesBalanced l (kept ▸ legal l) legal
  · exact legal

theorem laneFrameBeginEvent_lanesBalanced (l : LaneId) (legal : s.lanesBalanced) :
    (laneFrameBeginEvent l s).lanesBalanced := by
  have kept : s.lanes[l].begin.counters = s.lanes[l].counters := by
    unfold Lane.begin
    split
    · rfl
    · split <;> rfl
    · rfl
    · rfl
  unfold laneFrameBeginEvent
  split
  · exact legal
  · exact setLane_lanesBalanced l (kept ▸ legal l) legal

theorem lanesBalanced_keptBySamples (l : LaneId) : KeptBySamples l State.lanesBalanced where
  raise slot c s := lanesBalanced_looks (raiseInto_changes s slot c) (by simp)
  offer m s := lanesBalanced_looks (offerData_changes s m) (by simp)
  faultPoint p s := lanesBalanced_looks (faultPoint_changes s p) (by simp)
  faultGroup g s := lanesBalanced_looks (faultGroup_changes s g) (by simp)
  count _ legal := setLane_lanesBalanced l (legal l) legal
  place _ _ _ _ legal := legal
  remember _ _ _ _ _ _ legal := legal
  judge _ _ _ _ _ _ _ _ _ _ _ legal := legal

theorem warmRestart_lanesBalanced : (warmRestart s).lanesBalanced := by
  obtain ⟨slots, records, e, -⟩ := warmRestart_eq s
  rw [e]
  intro l
  show (rowsMap (fun _ (x : Lane) => x.warmRestart) s.lanes)[l].counters.balanced
  rw [rowsMap_apply]
  exact LaneCounters.zero_balanced

theorem disableLane_lanesBalanced (l : LaneId) (legal : s.lanesBalanced) :
    (disableLane l s).lanesBalanced := by
  obtain ⟨lanes, records, closed, rfl, e, each, -⟩ := disableLane_eq s l
  have shut : State.lanesBalanced { s with lanes := lanes, records := records } := by
    intro i
    show lanes[i].counters.balanced
    rw [each i]
    split <;> exact legal i
  rw [e]
  split
  · exact lanesBalanced_looks (disposeRelay_changes _ _) (by simp) shut
  · exact shut

theorem enableLane_lanesBalanced (l : LaneId) (legal : s.lanesBalanced) :
    (enableLane l s).lanesBalanced := by
  obtain ⟨lanes, records, e, each, -⟩ := enableLane_eq s l
  rw [e]
  intro i
  show lanes[i].counters.balanced
  rw [each i]
  split
  · exact LaneCounters.zero_balanced
  · exact legal i

theorem applySetLane_lanesBalanced (l : LaneId) (on : Bool) (settings : LaneSettings)
    (legal : s.lanesBalanced) : (applySetLane l on settings s).lanesBalanced := by
  have written : (s.setLane l { s.lanes[l] with settings := settings }).lanesBalanced :=
    setLane_lanesBalanced l (legal l) legal
  unfold applySetLane
  dsimp only
  split
  · split
    · exact legal
    · exact disableLane_lanesBalanced l legal
  · split
    · exact enableLane_lanesBalanced l written
    · exact written

theorem commandEvent_lanesBalanced (i : Instr) (s : State) (legal : s.lanesBalanced) :
    (commandEvent i s).lanesBalanced := by
  have blind : BlindToTakes State.lanesBalanced := .of_looksOnlyAt lanesBalanced_looks (by simp)
  have completion : KeptByCompletion State.lanesBalanced :=
    .of_looksOnlyAt lanesBalanced_looks (by simp) fun _ _ => warmRestart_lanesBalanced
  cases i
  case frameEnd l cause chars => exact frameEndEvent_lanesBalanced l cause chars legal
  case holdoffExpiry l => exact holdoffExpiryEvent_lanesBalanced l legal
  case laneFrameBegin l => exact laneFrameBeginEvent_lanesBalanced l legal
  case frameTaken =>
    exact frameTakenEvent_keeps legal (fun l _ _ _ => setLane_lanesBalanced l (legal l) legal)
      lanesBalanced_keptBySamples
  case transmissionCompletion => exact completion.transmissionCompletionEvent legal
  case setLane =>
    refine blind.operationEvent (o := .setLane) (fun tag o u legal => ?_) legal
    rcases setLaneOwn_state u tag o with e | ⟨l, on, settings, e⟩
    · exact e.symm ▸ legal
    · exact e.symm ▸ applySetLane_lanesBalanced l on settings legal
  case clearLaneCounters =>
    refine blind.operationEvent (o := .clearLaneCounters) (fun tag o u legal => ?_) legal
    rcases clearLaneCountersOwn_state u tag o with e | ⟨l, e⟩
    · exact e.symm ▸ legal
    · exact e.symm ▸ setLane_lanesBalanced l LaneCounters.zero_balanced legal
  all_goals
    exact lanesBalanced_looks (commandEvent_changes s _)
      (by simp [commandBlocks, operationBlocks, teardownBlocks]) legal

theorem atColdReset_lanesBalanced (cause : RestartCause) (hold : Bool) (straps : Fin 8) (queue : List Instr)
    (number : Nat) : (State.atColdReset cause hold straps queue number).lanesBalanced := by
  intro l
  have row : (Vector.replicate 8 Lane.coldReset)[l] = Lane.coldReset := Vector.getElem_replicate _
  show (Vector.replicate 8 Lane.coldReset)[l].counters.balanced
  rw [row]
  exact LaneCounters.zero_balanced

/-- Settles O55: case by case over the events: a frame end adds one to the total and to one outcome. -/
theorem everyStepKeepsLaneCountersBalanced : Obligations.EveryStepKeepsLaneCountersBalanced :=
  kept_of_events lanesBalanced_looks (by simp) atColdReset_lanesBalanced commandEvent_lanesBalanced

end Sys2Proof.Machine
end

section
/-! PROOF. Every step keeps the in-service stack nested (O54) and the Alert queue matched to it (O58). -/

namespace Sys2Proof.Machine

-- One proof after the other: many at once ask for too many threads.
set_option Elab.async false

/-! ## Nested stacks (R67, R68) -/

section nested

variable {stack : List InService}

/-- Four levels fall strictly at most four times (R67). -/
theorem stackNested.length_le (nested : stackNested stack) : stack.length ≤ 4 := by
  have levels : (stack.map InService.level).Nodup := by
    refine (nested.map _ fun lower upper h => ?_)
    exact h.1.ne'
  simpa using levels.length_le_card

theorem stackLegal_iff {s : State} : s.stackLegal ↔ stackNested s.stack :=
  ⟨fun legal => legal.2, fun nested => ⟨nested.length_le, nested⟩⟩

/-- A rewrite of records that keeps their slots, levels and numbers keeps the stack nested. -/
theorem stackNested.map_keeping (nested : stackNested stack) {change : InService → InService}
    (same : ∀ r, (change r).level = r.level ∧ (change r).slot = r.slot ∧ (change r).number = r.number) :
    stackNested (stack.map change) := by
  refine nested.map _ fun lower upper h => ?_
  obtain ⟨level, slot, number⟩ := same lower
  obtain ⟨level', slot', number'⟩ := same upper
  rw [level, slot, number, level', slot', number']
  exact h

theorem stackNested.updateRecord (nested : stackNested stack) (number : AlertNumber)
    {change : InService → InService}
    (same : ∀ r, (change r).level = r.level ∧ (change r).slot = r.slot ∧ (change r).number = r.number) :
    stackNested (updateRecord number change stack) := by
  refine nested.map_keeping fun r => ?_
  split
  · exact same r
  · exact ⟨rfl, rfl, rfl⟩

/-- A number that stands in no record: the search for it fails at most as often as there are records, since it
tries different numbers (R68). -/
theorem freeNumber_fresh (short : stack.length < 256) (n : AlertNumber) :
    ∀ r ∈ stack, r.number ≠ freeNumber stack stack.length n := by
  obtain ⟨skipped, within, found, skip, stop⟩ := freeNumber_spec stack stack.length n
  rw [found]
  rcases Nat.lt_or_eq_of_le within with less | all
  · exact stop less
  · intro r member taken
    have distinct : ((List.range (skipped + 1)).map fun d => n + BitVec.ofNat 8 d).Nodup := by
      refine (List.nodup_range).map_on fun i hi j hj same => ?_
      have equal := congrArg BitVec.toNat (BitVec.add_right_inj n |>.mp same)
      rw [List.mem_range] at hi hj
      simp only [BitVec.toNat_ofNat] at equal
      omega
    have stands : ((List.range (skipped + 1)).map fun d => n + BitVec.ofNat 8 d) ⊆
        stack.map InService.number := by
      intro number tried
      obtain ⟨d, hd, rfl⟩ := List.mem_map.mp tried
      rcases Nat.lt_succ_iff_lt_or_eq.mp (List.mem_range.mp hd) with earlier | rfl
      · obtain ⟨x, hx, e⟩ := skip d earlier
        exact List.mem_map.mpr ⟨x, hx, e⟩
      · exact List.mem_map.mpr ⟨r, member, taken⟩
    have count := (distinct.subperm stands).length_le
    simp only [List.length_map, List.length_range] at count
    omega

end nested

/-! ## Queued records and their alerts (R74) -/

/-- How many QUEUED records of a number stand in a stack. -/
def queuedOf (number : AlertNumber) (stack : List InService) : Nat :=
  stack.countP fun r => r.number == number && r.state == .queued

/-- A nested stack, an Alert queue matched to it number by number, and a WAKE alone on offer. -/
structure AlertsMatch (stack : List InService) (alertQ : List Message) (offer : Option Message) : Prop where
  nested : stackNested stack
  counts : ∀ number, alertsOf number alertQ = queuedOf number stack
  wake : offer.all (fun m => m.trunkClass == .wake) = true

/-- The stack and the Alert queue as the law of R74 has them. -/
def Matched (s : State) : Prop := AlertsMatch s.stack s.out.alertQ s.out.wakeOffer

theorem queuedOf_append (number : AlertNumber) (low high : List InService) :
    queuedOf number (low ++ high) = queuedOf number low + queuedOf number high := List.countP_append

theorem queuedOf_cons (number : AlertNumber) (r : InService) (stack : List InService) :
    queuedOf number (r :: stack) =
      queuedOf number stack + if r.number = number ∧ r.state = .queued then 1 else 0 := by
  simp only [queuedOf, List.countP_cons, Bool.and_eq_true, beq_iff_eq]

theorem queuedOf_absent {number : AlertNumber} {stack : List InService}
    (absent : ∀ r ∈ stack, r.number ≠ number) : queuedOf number stack = 0 := by
  simp only [queuedOf, List.countP_eq_zero, Bool.and_eq_true, beq_iff_eq, not_and]
  exact fun r member same => absurd same (absent r member)

/-- In a nested stack a record is the only one of its number. -/
theorem queuedOf_split {below above : List InService} {r : InService}
    (nested : stackNested (below ++ r :: above)) :
    queuedOf r.number (below ++ r :: above) = if r.state = .queued then 1 else 0 := by
  obtain ⟨low, high⟩ := nested.others
  rw [queuedOf_append, queuedOf_cons, queuedOf_absent low, queuedOf_absent high]
  simp

theorem alertsOf_append (number : AlertNumber) (front back : List Message) :
    alertsOf number (front ++ back) = alertsOf number front + alertsOf number back := List.countP_append

theorem alertsOf_cons (number : AlertNumber) (m : Message) (queue : List Message) :
    alertsOf number (m :: queue) = alertsOf number queue + if m.isAlertOf number = true then 1 else 0 :=
  List.countP_cons

theorem isAlertOf_iff (m : Message) (number : AlertNumber) :
    m.isAlertOf number = true ↔ ∃ a, m = .alert a ∧ a.number = number := by
  cases m <;> simp [Message.isAlertOf]

/-- The law of R74 as the statements word it counts the queued records. -/
theorem matched_iff {s : State} : s.stackLegal ∧ s.alertsLegal ↔ Matched s := by
  rw [stackLegal_iff]
  constructor
  · rintro ⟨nested, belongs, one, wake⟩
    refine ⟨nested, fun number => ?_, wake⟩
    by_cases stands : ∃ r ∈ s.stack, r.number = number
    · obtain ⟨r, member, rfl⟩ := stands
      rw [one r member]
      obtain ⟨below, above, split⟩ := List.append_of_mem member
      rw [split] at nested ⊢
      exact (queuedOf_split nested).symm
    · simp only [not_exists, not_and] at stands
      rw [queuedOf_absent stands, alertsOf, List.countP_eq_zero]
      intro m member alert
      obtain ⟨a, rfl, e⟩ := (isAlertOf_iff m number).mp alert
      obtain ⟨r, hr, same, -⟩ := belongs a member
      exact stands r hr (same.trans e)
  · rintro ⟨nested, counts, wake⟩
    refine ⟨nested, fun a member => ?_, fun r member => ?_, wake⟩
    · have waits : 0 < alertsOf a.number s.out.alertQ :=
        List.countP_pos_iff.mpr ⟨_, member, (isAlertOf_iff _ _).mpr ⟨a, rfl, rfl⟩⟩
      rw [counts, queuedOf, List.countP_pos_iff] at waits
      obtain ⟨r, hr, ok⟩ := waits
      rw [Bool.and_eq_true, beq_iff_eq, beq_iff_eq] at ok
      exact ⟨r, hr, ok⟩
    · rw [counts]
      obtain ⟨below, above, split⟩ := List.append_of_mem member
      rw [split] at nested ⊢
      exact queuedOf_split nested

/-! ## What keeps the law -/

variable {s t : State}

/-- The law looks at the stack, the Alert queue and the WAKE on offer alone. -/
theorem Matched.of_same (legal : Matched s) (stack : t.stack = s.stack)
    (alertQ : t.out.alertQ = s.out.alertQ)
    (wake : t.out.wakeOffer = s.out.wakeOffer ∨ t.out.wakeOffer = none ∨
      ∃ w, t.out.wakeOffer = some (.wake w)) : Matched t := by
  refine ⟨stack ▸ legal.nested, fun number => by rw [stack, alertQ]; exact legal.counts number, ?_⟩
  rcases wake with e | e | ⟨w, e⟩
  · exact e ▸ legal.wake
  · rw [e]; rfl
  · rw [e]; rfl

theorem matched_looks : LooksOnlyAt [.stack, .out] Matched := fun _ _ _ changed apart legal =>
  legal.of_same (changed.stack (apart _ (by simp))) (by rw [changed.out (apart _ (by simp))])
    (.inl (by rw [changed.out (apart _ (by simp))]))

theorem Matched.empty (stack : s.stack = []) (alertQ : s.out.alertQ = []) (wake : s.out.wakeOffer = none) :
    Matched s := by
  refine ⟨by rw [stack]; exact List.Pairwise.nil, fun number => by rw [stack, alertQ]; rfl, by rw [wake]; rfl⟩

/-! ### Raises, offers and wakes -/

theorem offerWake_wakeOffer (s : State) :
    (offerWake s).out.wakeOffer = s.out.wakeOffer ∨ ∃ w, (offerWake s).out.wakeOffer = some (.wake w) := by
  unfold offerWake
  cases s.out.sending
  · exact .inl rfl
  · exact .inr ⟨_, rfl⟩

theorem offerWake_matched (legal : Matched s) : Matched (offerWake s) := by
  refine legal.of_same rfl ?_ ((offerWake_wakeOffer s).imp_right .inr)
  unfold offerWake
  cases s.out.sending <;> rfl

theorem wakeCheck_matched (legal : Matched s) : Matched (wakeCheck s) := by
  unfold wakeCheck
  split
  · exact offerWake_matched legal
  · exact legal

theorem raiseInto_matched (slot : Option SlotId) (c : Cause) (legal : Matched s) :
    Matched (raiseInto slot c s) := by
  cases slot with
  | none => exact legal
  | some k => exact wakeCheck_matched (s := s.setSlot k _) legal

theorem raiseDevice_matched (d : DeviceCause) (legal : Matched s) : Matched (raiseDevice d s) :=
  raiseInto_matched _ _ legal

theorem offerData_matched (m : Message) (legal : Matched s) : Matched (offerData m s) := by
  rcases offerData_cases s m with ⟨-, e⟩ | ⟨-, -, e⟩ | ⟨-, -, e⟩ <;> rw [e]
  · exact legal
  · exact legal
  · exact raiseDevice_matched _ legal

theorem faultGroup_matched (g : GroupId) (legal : Matched s) : Matched (faultGroup g s) := by
  rw [faultGroup_eq]
  exact raiseDevice_matched _ legal

theorem matched_keptBySamples (l : LaneId) : KeptBySamples l Matched where
  raise slot c _ := raiseInto_matched slot c
  offer m _ := offerData_matched m
  faultPoint p s legal := by
    rw [faultPoint_eq]
    exact raiseDevice_matched _ legal
  faultGroup g _ := faultGroup_matched g
  count _ legal := legal
  place _ _ _ _ legal := legal
  remember _ _ _ _ _ _ legal := legal
  judge _ _ _ _ _ _ _ _ _ _ _ legal := legal

/-! ### Captures (R71) -/

/-- A capture pushes a record of a lower level, of a slot and a number that no record holds. -/
theorem captured_nested {k : SlotId} (chosen : s.selectable k) (nested : stackNested s.stack) :
    stackNested (s.stack ++ [s.captured k]) := by
  obtain ⟨-, -, absent, below⟩ := chosen
  refine List.pairwise_append.mpr ⟨nested, List.pairwise_singleton _ _, fun r member x pushed => ?_⟩
  rw [List.mem_singleton.mp pushed]
  refine ⟨?_, (absent r member).symm, fun same => ?_⟩
  · obtain ⟨low, top, split⟩ : ∃ low top, s.stack = low ++ [top] :=
      ⟨_, _, (List.dropLast_append_getLast (List.ne_nil_of_mem member)).symm⟩
    rw [split, serviceLevel, List.getLast?_concat] at below
    rw [split] at member nested
    refine lt_of_lt_of_le below ?_
    rcases List.mem_append.mp member with lower | here
    · exact ((List.pairwise_append.mp nested).2.2 r lower top (by simp)).1.le
    · rw [List.mem_singleton.mp here]
  · have few := nested.length_le
    exact freeNumber_fresh (by omega) s.alertCounter r member same.symm

theorem selection_selectable {k : SlotId} (chosen : s.selection = some k) : s.selectable k :=
  ((bestSlot_some s k).mp (State.selection_eq_some_iff.mp chosen).2).1

theorem captureEvent_stack (s : State) : captureEvent s = s ∨
    ∃ k, s.selectable k ∧ (captureEvent s).stack = s.stack ++ [s.captured k] ∧
      (captureEvent s).out = { s.out with alertQ := s.out.alertQ ++ [(s.captured k).alert] } := by
  unfold captureEvent
  split
  · exact .inl rfl
  · next k chosen => exact .inr ⟨k, selection_selectable chosen, rfl, rfl⟩

theorem alert_isAlertOf (r : InService) (number : AlertNumber) :
    r.alert.isAlertOf number = true ↔ r.number = number := by
  simp [InService.alert, Message.isAlertOf]

theorem captureEvent_matched (legal : Matched s) : Matched (captureEvent s) := by
  rcases captureEvent_stack s with e | ⟨k, chosen, stack, out⟩
  · rw [e]; exact legal
  · refine ⟨by rw [stack]; exact captured_nested chosen legal.nested, fun number => ?_,
      by rw [out]; exact legal.wake⟩
    rw [stack, out, queuedOf_append, alertsOf_append, legal.counts, queuedOf_cons, alertsOf_cons]
    simp only [alert_isAlertOf, State.captured, and_true]
    rfl

/-! ### Repeats and lapses (R77 to R79) -/

/-- A record that is not QUEUED becomes QUEUED with its ALERT at the tail, or stays out of the queue. -/
theorem Matched.rewrite {below above : List InService} {r r' : InService} (legal : Matched s)
    (stack : s.stack = below ++ r :: above) (nested : stackNested (below ++ r' :: above)) (unqueued : r.state ≠ .queued)
    (stack' : t.stack = below ++ r' :: above) (wake : t.out.wakeOffer = s.out.wakeOffer)
    (alertQ : t.out.alertQ = s.out.alertQ ++ if r'.state = .queued then [r'.alert] else []) : Matched t := by
  refine ⟨by rw [stack']; exact nested, fun n => ?_, by rw [wake]; exact legal.wake⟩
  have before := legal.counts n
  rw [stack, queuedOf_append, queuedOf_cons, if_neg fun h => unqueued h.2] at before
  rw [alertQ, alertsOf_append, before, stack', queuedOf_append, queuedOf_cons]
  split
  · next queued =>
    rw [alertsOf_cons]
    simp only [alert_isAlertOf, queued, and_true]
    simp only [alertsOf, List.countP_nil]
    omega
  · next other =>
    rw [if_neg fun h => other h.2]
    simp [alertsOf]

/-- A record that is not QUEUED leaves the stack, and no ALERT joins the queue. -/
theorem Matched.remove {below above : List InService} {r : InService} (legal : Matched s)
    (stack : s.stack = below ++ r :: above) (unqueued : r.state ≠ .queued)
    (stack' : t.stack = below ++ above) (wake : t.out.wakeOffer = s.out.wakeOffer)
    (alertQ : ∀ n, alertsOf n t.out.alertQ = alertsOf n s.out.alertQ) : Matched t := by
  have nested := legal.nested
  rw [stack] at nested
  refine ⟨?_, fun n => ?_, by rw [wake]; exact legal.wake⟩
  · rw [stack']
    exact nested.sublist ((List.Sublist.refl _).append (List.sublist_cons_self _ _))
  · have before := legal.counts n
    rw [stack, queuedOf_append, queuedOf_cons, if_neg fun h => unqueued h.2] at before
    rw [alertQ, before, stack', queuedOf_append, Nat.add_zero]

theorem repeatRecord_matched {below above : List InService} {r : InService} (legal : Matched s)
    (stack : s.stack = below ++ r :: above) (unqueued : r.state ≠ .queued) : Matched (repeatRecord r s) := by
  have nested := legal.nested
  rw [stack] at nested
  have again (state : RecordState) : updateRecord r.number (fun r => r.again state) s.stack =
      below ++ r.again state :: above := by rw [stack, updateRecord_split nested]
  have nested' (state : RecordState) : stackNested (below ++ r.again state :: above) := by
    rw [← again, stack]
    exact nested.updateRecord _ fun _ => ⟨rfl, rfl, rfl⟩
  unfold repeatRecord
  split
  · exact legal.rewrite (r' := r.again .queued) stack (nested' _) unqueued (again _) rfl rfl
  · exact legal.rewrite (r' := r.again .repeatOwed) stack (nested' _) unqueued (again _) rfl
      (by simp [InService.again])

theorem lapseRecord_matched {below above : List InService} {r : InService} (legal : Matched s)
    (stack : s.stack = below ++ r :: above) (unqueued : r.state ≠ .queued) : Matched (lapseRecord r s) := by
  have nested := legal.nested
  rw [stack] at nested
  have removed : s.stack.filter (fun x => x.number != r.number) = below ++ above := by
    rw [stack, filter_number_split nested]
  refine raiseDevice_matched _ ?_
  split
  · refine legal.remove stack unqueued removed rfl fun n => ?_
    simp [alertsOf, InService.lapse, Message.isAlertOf]
  · exact legal.remove stack unqueued removed rfl fun n => rfl

theorem acknowledgementTimerExpiryEvent_matched (number : AlertNumber) (legal : Matched s) :
    Matched (acknowledgementTimerExpiryEvent number s) := by
  unfold acknowledgementTimerExpiryEvent
  split
  · exact legal
  · next r found =>
    obtain ⟨below, above, stack⟩ := List.append_of_mem (List.mem_of_find?_eq_some found)
    have due := List.find?_some found
    simp only [Bool.and_eq_true, beq_iff_eq] at due
    have unqueued : r.state ≠ .queued := by rw [due.1.2]; decide
    split
    · exact repeatRecord_matched legal stack unqueued
    · exact lapseRecord_matched legal stack unqueued

theorem owedRepeatPlacementEvent_matched (legal : Matched s) : Matched (owedRepeatPlacementEvent s) := by
  unfold owedRepeatPlacementEvent
  split
  · exact legal
  · next r found =>
    have member : r ∈ s.stack := List.mem_reverse.mp (List.mem_of_find?_eq_some found)
    obtain ⟨below, above, stack⟩ := List.append_of_mem member
    have owed := List.find?_some found
    simp only [beq_iff_eq] at owed
    have nested := legal.nested
    rw [stack] at nested
    have placed : updateRecord r.number (fun r => { r with state := .queued }) s.stack =
        below ++ { r with state := .queued } :: above := by rw [stack, updateRecord_split nested]
    split
    · refine legal.rewrite (r' := { r with state := .queued }) stack ?_ (by rw [owed]; decide) placed rfl rfl
      rw [← placed, stack]
      exact nested.updateRecord _ fun _ => ⟨rfl, rfl, rfl⟩
    · exact legal

/-! ### The Trunk Transmitter's reports (R75) -/

theorem reportStart_nested (m : Message) {stack : List InService} (nested : stackNested stack) :
    stackNested (reportStart m stack) := by
  unfold reportStart
  split
  · refine nested.map_keeping fun r => ?_
    split <;> exact ⟨rfl, rfl, rfl⟩
  · exact nested

theorem reportStart_other {m : Message} (other : ∀ a, m ≠ .alert a) (stack : List InService) :
    reportStart m stack = stack := by
  cases m with
  | alert a => exact absurd rfl (other a)
  | _ => rfl

/-- A started ALERT leaves no QUEUED record of its number, and every other number as it was. -/
theorem queuedOf_reportStart (a : AlertMessage) (stack : List InService) (n : AlertNumber) :
    queuedOf n (reportStart (.alert a) stack) = if n = a.number then 0 else queuedOf n stack := by
  induction stack with
  | nil => simp [reportStart, queuedOf]
  | cons r stack ih =>
    have step : reportStart (.alert a) (r :: stack) =
        (if r.number = a.number ∧ r.state = .queued then { r with state := .sending } else r) ::
          reportStart (.alert a) stack := rfl
    rw [step, queuedOf_cons, ih, queuedOf_cons]
    by_cases same : n = a.number
    · subst same
      by_cases started : r.number = a.number ∧ r.state = .queued
      · simp [started]
      · simp [started]
    · by_cases started : r.number = a.number ∧ r.state = .queued
      · have other : a.number ≠ n := fun e => same e.symm
        simp [started, same, other]
      · simp [started, same]

/-- A start takes the head of the Alert queue, or finds that queue empty, or takes the WAKE on offer. -/
theorem chooseStart_cases {link : LinkState} {o : Outbound} {start : Start}
    (chosen : chooseStart link o = some start) :
    (start.rest.wakeOffer = o.wakeOffer ∨ start.rest.wakeOffer = none) ∧
    (o.alertQ = start.message :: start.rest.alertQ ∨
      (start.rest.alertQ = o.alertQ ∧ (o.alertQ = [] ∨ o.wakeOffer = some start.message))) := by
  unfold chooseStart at chosen
  split at chosen
  · split at chosen
    · next queue => cases chosen; exact ⟨.inl rfl, .inl queue⟩
    · next empty _ => cases chosen; exact ⟨.inl rfl, .inr ⟨rfl, .inl empty⟩⟩
    · next empty _ _ => cases chosen; exact ⟨.inl rfl, .inr ⟨rfl, .inl empty⟩⟩
    · cases chosen
  · obtain ⟨m, offered, rfl⟩ := Option.map_eq_some_iff.mp chosen
    exact ⟨.inr rfl, .inr ⟨rfl, .inr offered⟩⟩
  · cases chosen
  · cases chosen

/-- Under the law, the counts hold after a start: its ALERT was the only one of its number. -/
theorem chooseStart_counts {start : Start} (legal : Matched s)
    (chosen : chooseStart s.link.state s.out = some start) (n : AlertNumber) :
    alertsOf n start.rest.alertQ = queuedOf n (reportStart start.message s.stack) := by
  have before := legal.counts n
  by_cases isAlert : ∃ a, start.message = .alert a
  · obtain ⟨a, message⟩ := isAlert
    rw [message, queuedOf_reportStart]
    rcases (chooseStart_cases chosen).2 with queue | ⟨same, empty | offered⟩
    · rw [queue, message, alertsOf_cons] at before
      split
      · next here =>
        subst here
        have atMost : queuedOf a.number s.stack ≤ 1 := by
          by_cases stands : ∃ r ∈ s.stack, r.number = a.number
          · obtain ⟨r, member, e⟩ := stands
            obtain ⟨below, above, split⟩ := List.append_of_mem member
            have nested := legal.nested
            rw [split] at nested
            rw [← e, split, queuedOf_split nested]
            split <;> simp
          · simp only [not_exists, not_and] at stands
            rw [queuedOf_absent stands]
            exact Nat.zero_le 1
        simp only [Message.isAlertOf, beq_self_eq_true, if_true] at before
        omega
      · next other =>
        have unlike : ¬(Message.alert a).isAlertOf n = true := by
          simpa [Message.isAlertOf] using fun e : a.number = n => other e.symm
        rw [if_neg unlike] at before
        exact before
    · rw [same, before]
      rw [empty] at before
      split
      · exact before.symm
      · rfl
    · have wake := legal.wake
      rw [offered, message] at wake
      cases wake
  · simp only [not_exists] at isAlert
    rw [reportStart_other isAlert]
    rcases (chooseStart_cases chosen).2 with queue | ⟨same, -⟩
    · rw [queue, alertsOf_cons, if_neg] at before
      · exact before
      · intro alert
        obtain ⟨a, e, -⟩ := (isAlertOf_iff _ _).mp alert
        exact isAlert a e
    · rw [same, before]

theorem transmissionStartEvent_matched (legal : Matched s) : Matched (transmissionStartEvent s) := by
  unfold transmissionStartEvent
  split
  · next start _ chosen =>
    refine ⟨reportStart_nested _ legal.nested, chooseStart_counts legal chosen, ?_⟩
    show start.rest.wakeOffer.all _ = true
    rcases (chooseStart_cases chosen).1 with e | e
    · rw [e]; exact legal.wake
    · rw [e]; rfl
  · exact legal

theorem reportCompletion_nested (a : AlertMessage) (nested : stackNested s.stack) :
    stackNested (reportCompletion a s) := by
  refine nested.map_keeping fun r => ?_
  split <;> exact ⟨rfl, rfl, rfl⟩

theorem reportCompletion_matched (a : AlertMessage) (legal : Matched s) :
    Matched (s.setStack (reportCompletion a s)) := by
  refine ⟨reportCompletion_nested a legal.nested, fun n => ?_, legal.wake⟩
  rw [State.setStack_out, legal.counts, State.setStack_stack, reportCompletion, queuedOf, queuedOf,
    List.countP_map]
  refine List.countP_congr fun r _ => ?_
  simp only [Function.comp_apply]
  split
  · next sent => simp [sent.2]
  · rfl

theorem warmRestart_matched : Matched (warmRestart s) := by
  obtain ⟨slots, records, e, -⟩ := warmRestart_eq s
  rw [e]
  exact .empty rfl rfl rfl

/-! ### The pop (R81) -/

theorem popTop_matched {top : InService} (last : s.stack.getLast? = some top) (legal : Matched s) :
    Matched (popTop top s) := by
  obtain ⟨below, stack⟩ := List.getLast?_eq_some_iff.mp last
  have popped : s.stack.dropLast = below := by rw [stack, List.dropLast_concat]
  have nested := legal.nested
  rw [stack] at nested
  by_cases queued : top.state = .queued
  · refine ⟨?_, fun n => ?_, legal.wake⟩
    · show stackNested s.stack.dropLast
      rw [popped]
      exact nested.sublist (List.sublist_append_left _ _)
    · have before := legal.counts n
      rw [stack, queuedOf_append, queuedOf_cons] at before
      show alertsOf n (withdrawAlert top s.out.alertQ) = queuedOf n s.stack.dropLast
      rw [popped, withdrawAlert, if_pos queued, alertsOf, List.countP_filter]
      by_cases same : top.number = n
      · subst same
        rw [queuedOf_absent (nested.others (above := [])).1, List.countP_eq_zero]
        simp
      · rw [if_neg fun h => same h.1] at before
        simp only [queuedOf, List.countP_nil, Nat.add_zero] at before
        rw [queuedOf, ← before, alertsOf]
        refine List.countP_congr fun m _ => ?_
        rw [Bool.and_eq_true]
        refine ⟨fun h => h.1, fun h => ⟨h, ?_⟩⟩
        obtain ⟨a, rfl, rfl⟩ := (isAlertOf_iff m n).mp h
        simpa [Message.isAlertOf] using fun e : a.number = top.number => same e.symm
  · refine legal.remove (above := []) stack queued ?_ rfl fun n => ?_
    · rw [List.append_nil]
      exact popped
    · show alertsOf n (withdrawAlert top s.out.alertQ) = _
      rw [withdrawAlert, if_neg queued]

/-! ## Every command -/

theorem matched_keptByTrunk : KeptByTrunk Matched where
  teardown _ _ := .empty rfl rfl rfl
  attach s offline legal := by
    unfold attachMessage
    rw [if_pos offline]
    exact legal.of_same rfl rfl (.inr (.inl rfl))
  active _ legal := legal.of_same rfl rfl (.inr (.inl rfl))
  silence _ _ legal := legal
  receive _ _ _ legal := legal
  queue _ _ _ _ legal := legal
  wake _ _ legal := offerWake_matched legal

theorem matched_keptByCompletion : KeptByCompletion Matched where
  idle _ legal := legal
  alert a _ legal := reportCompletion_matched a legal
  dormant _ _ legal := wakeCheck_matched legal
  restart _ _ := warmRestart_matched
  told _ legal := legal

theorem frameEndEvent_matched (l : LaneId) (cause : FrameEndCause) (chars : List Byte) (legal : Matched s) :
    Matched (frameEndEvent l cause chars s) := by
  unfold frameEndEvent
  dsimp only
  split
  · exact legal
  split
  · exact legal
  split
  · exact legal
  · split
    · exact legal
    · split
      · exact raiseDevice_matched _ legal
      · exact legal
  · exact legal
  · exact legal

theorem endLongOp_matched (status : Status) (results : List Byte) (legal : Matched s) :
    Matched (endLongOp status results s) := by
  rw [endLongOp_eq]
  unfold longOpEnded
  cases s.mgmt.tracker.replyOwed <;> exact legal

theorem relayOutcome_matched (k : PairId) (outcome : RelayOutcome) (f : RelayFrame) (legal : Matched s) :
    Matched (relayOutcome k outcome f s) := by
  rw [relayOutcome_eq]
  exact legal

theorem applySetLane_matched (l : LaneId) (on : Bool) (settings : LaneSettings) (legal : Matched s) :
    Matched (applySetLane l on settings s) := by
  unfold applySetLane
  dsimp only
  split
  · split
    · exact legal
    · obtain ⟨lanes, records, closed, rfl, e, -⟩ := disableLane_eq s l
      rw [e]
      split
      · rw [disposeRelay_eq]
        exact legal
      · exact legal
  · split
    · exact matched_looks (enableLane_changes _ l) (by simp) legal
    · exact legal

theorem commandEvent_matched (i : Instr) (s : State) (legal : Matched s) : Matched (commandEvent i s) := by
  have blind : BlindToTakes Matched := ⟨fun _ _ legal => legal, fun _ _ legal => legal, fun _ _ legal => legal⟩
  cases i
  case frameEnd l cause chars => exact frameEndEvent_matched l cause chars legal
  case frameTaken => exact frameTakenEvent_keeps legal (fun _ _ _ _ => legal) matched_keptBySamples
  case staleExpiry p =>
    show Matched (staleExpiryEvent p s)
    unfold staleExpiryEvent
    dsimp only
    split
    · split
      · exact raiseInto_matched _ _ legal
      · exact legal
    · exact legal
  case periodTimerExpiry g =>
    show Matched (periodTimerExpiryEvent g s)
    unfold periodTimerExpiryEvent
    dsimp only
    split
    · exact (matched_keptBySamples 0).assembleReport (show Matched (s.setPeriodTimer g _) from legal) g _
    · exact legal
  case copyActiveEntry =>
    show Matched (copyActiveEntryEvent s)
    unfold copyActiveEntryEvent
    dsimp only
    split
    · split
      · exact legal
      · exact endLongOp_matched _ _ legal
    · exact legal
  case checkPassEntry =>
    show Matched (checkPassEntryEvent s)
    unfold checkPassEntryEvent
    dsimp only
    split
    · split
      · exact endLongOp_matched _ _ legal
      · split <;> exact legal
    · exact legal
  case commitCompletion =>
    show Matched (commitCompletionEvent s)
    unfold commitCompletionEvent
    dsimp only
    split
    · exact endLongOp_matched _ _ legal
    · exact legal
  case capture => exact captureEvent_matched legal
  case acknowledgementTimerExpiry number => exact acknowledgementTimerExpiryEvent_matched number legal
  case owedRepeatPlacement => exact owedRepeatPlacementEvent_matched legal
  case transmissionStart => exact transmissionStartEvent_matched legal
  case transmissionCompletion => exact matched_keptByCompletion.transmissionCompletionEvent legal
  case messageEnd cause chars => exact matched_keptByTrunk.messageEndEvent legal cause chars
  case attach payload => exact matched_keptByTrunk.validMessageEvent legal .attach payload
  case request payload => exact matched_keptByTrunk.validMessageEvent legal .request payload
  case keepalive payload => exact matched_keptByTrunk.validMessageEvent legal .keepalive payload
  case silenceTimerExpiry => exact matched_keptByTrunk.silenceTimerExpiryEvent legal
  case wakeTimerExpiry => exact matched_keptByTrunk.wakeTimerExpiryEvent legal
  case relayTransmissionCompletion k =>
    show Matched (relayTransmissionCompletionEvent k s)
    unfold relayTransmissionCompletionEvent
    dsimp only
    split
    · exact relayOutcome_matched _ _ _ legal
    · exact legal
  case badOp => exact blind.takeEvent (fun _ _ _ legal => legal) _ legal
  case alertDone =>
    refine blind.operationEvent (o := .alertDone) (fun tag o u legal => ?_) legal
    rcases alertDoneOwn_state u tag o with e | ⟨top, last, e⟩
    · exact e.symm ▸ legal
    · exact e.symm ▸ popTop_matched last legal
  case setLane =>
    refine blind.operationEvent (o := .setLane) (fun tag o u legal => ?_) legal
    rcases setLaneOwn_state u tag o with e | ⟨l, on, settings, e⟩
    · exact e.symm ▸ legal
    · exact e.symm ▸ applySetLane_matched l on settings legal
  case triggerGroup =>
    refine blind.operationEvent (o := .triggerGroup) (fun tag o u legal => ?_) legal
    rcases triggerGroupOwn_state u tag o with e | ⟨g, e | ⟨-, e⟩⟩
    · exact e.symm ▸ legal
    · exact e.symm ▸ faultGroup_matched g legal
    · exact e.symm ▸ legal
  case holdoffExpiry => exact matched_looks (holdoffExpiryEvent_changes s _) (by simp) legal
  case laneFrameBegin => exact matched_looks (laneFrameBeginEvent_changes s _) (by simp) legal
  case gapEnd => exact matched_looks (gapEndEvent_changes s _) (by simp) legal
  case relayTransmissionStart => exact matched_looks (relayTransmissionStartEvent_changes s _) (by simp) legal
  case shortRequest => exact matched_looks (shortRequestEvent_changes s) (by simp) legal
  case trunkMessageBegin => exact matched_looks (trunkMessageBeginEvent_changes s) (by simp) legal
  case coldReset => exact legal
  case resetRelease => exact legal
  all_goals
    refine blind.operationEvent (fun tag o u legal => ?_) legal
    exact matched_looks (own_changes u _ tag o) (by simp [operationBlocks]) legal

/-- Settles O58: case by case over the events, with the nested stack as part of the law. -/
theorem everyStepKeepsAlertsMatchedToTheStack : Obligations.EveryStepKeepsAlertsMatchedToTheStack := by
  have kept : KeptByEveryStep Matched :=
    kept_of_events matched_looks (by simp) (fun _ _ _ _ _ => .empty rfl rfl rfl) commandEvent_matched
  exact fun s t legal done => matched_iff.mpr (kept s t (matched_iff.mp legal) done)

/-! ## The nested stack by itself -/

/-- The law of O54, the length left to the levels. -/
def Nested (s : State) : Prop := stackNested s.stack

theorem nested_looks : LooksOnlyAt [.stack] Nested := by
  intro bs s t changed apart legal
  unfold Nested
  rw [changed.stack (apart _ (by simp))]
  exact legal

theorem acknowledgementTimerExpiryEvent_nested (number : AlertNumber) (legal : Nested s) :
    Nested (acknowledgementTimerExpiryEvent number s) := by
  unfold acknowledgementTimerExpiryEvent
  split
  · exact legal
  · next r _ =>
    split
    · have again (state : RecordState) :
          stackNested (updateRecord r.number (fun r => r.again state) s.stack) :=
        stackNested.updateRecord legal _ fun _ => ⟨rfl, rfl, rfl⟩
      unfold repeatRecord
      split
      · exact again _
      · exact again _
    · unfold lapseRecord
      dsimp only
      refine nested_looks (raiseDevice_changes _ _) (by simp) ?_
      have removed : stackNested (s.stack.filter fun x => x.number != r.number) :=
        List.Pairwise.filter _ legal
      split
      · exact removed
      · exact removed

theorem owedRepeatPlacementEvent_nested (legal : Nested s) : Nested (owedRepeatPlacementEvent s) := by
  unfold owedRepeatPlacementEvent
  split
  · exact legal
  split
  · exact stackNested.updateRecord legal _ fun _ => ⟨rfl, rfl, rfl⟩
  · exact legal

theorem transmissionStartEvent_nested (legal : Nested s) : Nested (transmissionStartEvent s) := by
  unfold transmissionStartEvent
  split
  · exact reportStart_nested _ legal
  · exact legal

theorem nested_keptByCompletion : KeptByCompletion Nested where
  idle _ legal := legal
  alert a _ legal := reportCompletion_nested a legal
  dormant s _ legal := nested_looks (enterDormant_changes s) (by simp) legal
  restart s _ := (warmRestart_matched (s := s)).nested
  told _ legal := legal

theorem commandEvent_nested (i : Instr) (s : State) (legal : Nested s) : Nested (commandEvent i s) := by
  have trunk : KeptByTrunk Nested := .of_looksOnlyAt nested_looks (by simp) fun _ _ => List.Pairwise.nil
  have blind : BlindToTakes Nested := .of_looksOnlyAt nested_looks (by simp)
  cases i
  case capture =>
    show Nested (captureEvent s)
    unfold Nested
    rcases captureEvent_stack s with e | ⟨k, chosen, stack, -⟩
    · rw [e]; exact legal
    · rw [stack]; exact captured_nested chosen legal
  case acknowledgementTimerExpiry number => exact acknowledgementTimerExpiryEvent_nested number legal
  case owedRepeatPlacement => exact owedRepeatPlacementEvent_nested legal
  case transmissionStart => exact transmissionStartEvent_nested legal
  case transmissionCompletion => exact nested_keptByCompletion.transmissionCompletionEvent legal
  case messageEnd cause chars => exact trunk.messageEndEvent legal cause chars
  case attach payload => exact trunk.validMessageEvent legal .attach payload
  case request payload => exact trunk.validMessageEvent legal .request payload
  case keepalive payload => exact trunk.validMessageEvent legal .keepalive payload
  case silenceTimerExpiry => exact trunk.silenceTimerExpiryEvent legal
  case wakeTimerExpiry => exact trunk.wakeTimerExpiryEvent legal
  case alertDone =>
    refine blind.operationEvent (o := .alertDone) (fun tag o u legal => ?_) legal
    rcases alertDoneOwn_state u tag o with e | ⟨top, -, e⟩
    · exact e.symm ▸ legal
    · exact e.symm ▸ List.Pairwise.sublist (List.dropLast_sublist _) legal
  all_goals
    exact nested_looks (commandEvent_changes s _)
      (by simp [commandBlocks, operationBlocks, sampleBlocks]) legal

/-- Settles O54: from the law of O58, of which the nested stack is a part. -/
theorem everyStepKeepsTheStackNested : Obligations.EveryStepKeepsTheStackNested := by
  have kept : KeptByEveryStep Nested :=
    kept_of_events nested_looks (by simp) (fun _ _ _ _ _ => List.Pairwise.nil) commandEvent_nested
  exact fun s t legal done => stackLegal_iff.mpr (kept s t (stackLegal_iff.mp legal) done)

end Sys2Proof.Machine
end

section
/-! PROOF. WRITE_GROUP and CLEAR_SHADOW (O33): the checks of R8 in their order, the six bytes of a group entry
read without loss, and the shadow stores of R8 and R94. -/

namespace Sys2Proof.Machine

-- One proof after the other: many at once ask for too many threads.
set_option Elab.async false

variable {b : List Byte}

/-! ## The checks of R8 in their order -/

theorem groupChecks_refusal (b : List Byte) : firstFailure (groupChecks b) = groupRefusal b := by
  have trigger : (enumOf triggers (byteAt b 0)).isSome = true ↔ ¬4 ≤ numAt b 0 := by
    simp [enumOf_isSome, triggers, numAt]
  unfold groupChecks groupRefusal
  refine firstFailure_check trigger <| firstFailure_check ?length <| firstFailure_check ?last <|
    firstFailure_check ?period <| firstFailure_check ?member firstFailure_nil
  all_goals
    simp only [Bool.and_eq_true, decide_eq_true_eq]
    omega

/-- Six bytes of a group entry that pass every check of R8. -/
structure GroupBytesPass (b : List Byte) : Prop where
  trigger : numAt b 0 < 4
  length : 1 ≤ numAt b 2 ∧ numAt b 2 ≤ 8
  last : numAt b 1 + numAt b 2 ≤ 256
  period : 1 ≤ wordAt b 3 ∧ wordAt b 3 ≤ 36000
  member : numAt b 5 ≤ 7 ∧ numAt b 5 < numAt b 2

theorem groupBytesPass_of_groupRefusal (h : groupRefusal b = none) : GroupBytesPass b := by
  simp only [groupRefusal, ite_some_eq_none_iff] at h
  obtain ⟨trigger, length, last, period, member, -⟩ := h
  constructor <;> omega

/-! ## The entry that passing bytes carry -/

theorem trigger_byte {c : Byte} (h : c.toNat < 4) : u8 ((enumOf triggers c).getD .off).code = [c] := by
  apply u8_of_toNat
  have : c.toNat = 0 ∨ c.toNat = 1 ∨ c.toNat = 2 ∨ c.toNat = 3 := by omega
  rcases this with e | e | e | e <;> rw [enumOf, e] <;> rfl

theorem enumOf_triggerOff (c : Byte) : enumOf triggers c = some .off ↔ c = 0#8 := by
  constructor
  · intro off
    have small : c.toNat < 4 := by
      have named := enumOf_isSome triggers c
      rw [off] at named
      simpa [triggers] using named
    have code := trigger_byte small
    rw [off] at code
    exact (List.singleton_injective code).symm
  · rintro rfl
    rfl

theorem groupOfBytes_trigger (h : GroupBytesPass b) (on : byteAt b 0 ≠ 0#8) :
    (groupOfBytes b).trigger ≠ .off := by
  intro off
  have code := trigger_byte (c := byteAt b 0) h.trigger
  rw [show (enumOf triggers (byteAt b 0)).getD .off = .off from off] at code
  exact on (List.singleton_injective code).symm

theorem groupOfBytes_legal (h : GroupBytesPass b) (on : byteAt b 0 ≠ 0#8) : (groupOfBytes b).legal := by
  have start : (groupOfBytes b).start.val = numAt b 1 := rfl
  have length : (groupOfBytes b).length = numAt b 2 := rfl
  have triggered := groupOfBytes_trigger h on
  obtain ⟨-, ⟨one, eight⟩, last, ⟨short, long⟩, seven, inside⟩ := h
  refine ⟨one, eight, ?_, short, long, seven, inside, fun off => absurd off triggered⟩
  rw [start, length]
  omega

theorem groupOfBytes_bytes (length : b.length = 6) (h : GroupBytesPass b) : (groupOfBytes b).bytes = b := by
  have listed : b = (List.range 6).map (byteAt b) := by rw [← length, map_byteAt_range]
  conv_rhs => rw [listed]
  simp only [GroupEntry.bytes, groupOfBytes, u16_wordAt, u8_numAt, trigger_byte h.trigger]
  rw [show (byteAt b 1).toFin.val = numAt b 1 from rfl, u8_numAt]
  rfl

/-! ## The three outcomes of reading an entry (R8) -/

theorem readGroupEntry_off (h : byteAt b 0 = 0#8) : readGroupEntry b = .ok GroupEntry.groupOff := by
  rw [readGroupEntry, if_pos ((enumOf_triggerOff _).mpr h)]

theorem readGroupEntry_refused {field : Nat} (h : byteAt b 0 ≠ 0#8) (refusal : groupRefusal b = some field) :
    readGroupEntry b = .error field := by
  rw [readGroupEntry, if_neg (mt (enumOf_triggerOff _).mp h), groupChecks_refusal, refusal]

theorem readGroupEntry_passed (h : byteAt b 0 ≠ 0#8) (refusal : groupRefusal b = none) :
    readGroupEntry b = .ok (groupOfBytes b) := by
  rw [readGroupEntry, if_neg (mt (enumOf_triggerOff _).mp h), groupChecks_refusal, refusal]

/-! ## WRITE_GROUP (R8) -/

section request

variable {s : State} {tag : Tag} {b0 : Byte} {rest : List (List Byte)}

theorem writeGroup_answers {t : State} {status : Status} {results : List Byte}
    (free : s.mgmt.tracker.operation = .none) (length : b.length = 6)
    (takes : Takes s tag 4#8 (b0 :: b) rest)
    (ran : writeGroupOwn tag (b0 :: b) (taken tag rest s) = ⟨taken tag rest t, some ⟨status, results⟩⟩) :
    Answers .writeGroup s tag rest status results t :=
  take_answers (o := .writeGroup) takes (by simp [operandsFit, length]) (.inr free) ran

theorem writeGroupOwn_named {g : GroupId} (named : b0.toNat = g.val) (u : State) :
    writeGroupOwn tag (b0 :: b) u =
      match readGroupEntry b with
      | .error field => badValue field u
      | .ok e => answerOk (u8 g.val ++ codeField e.checkCode) (storeGroup g e u) := by
  simp only [writeGroupOwn, byteAt, List.getD_cons_zero, groupOf_some named, List.tail_cons] <;> rfl

theorem writeGroup_refuses {g : GroupId} {field : Nat} (free : s.mgmt.tracker.operation = .none)
    (length : b.length = 6) (takes : Takes s tag 4#8 (b0 :: b) rest) (named : b0.toNat = g.val)
    (read : readGroupEntry b = .error field) :
    Answers .writeGroup s tag rest .badValue (u8 field) s := by
  apply writeGroup_answers free length takes
  rw [writeGroupOwn_named named, read]
  rfl

theorem writeGroup_stores {g : GroupId} {e : GroupEntry} (free : s.mgmt.tracker.operation = .none)
    (length : b.length = 6) (takes : Takes s tag 4#8 (b0 :: b) rest) (named : b0.toNat = g.val)
    (read : readGroupEntry b = .ok e) :
    Answers .writeGroup s tag rest .ok ([b0] ++ codeField (crc16 e.bytes))
      (s.setMap (s.map.setShadowBank (s.map.shadowBank.setGroup g ⟨e, crc16 e.bytes, false⟩))) := by
  apply writeGroup_answers free length takes
  rw [writeGroupOwn_named named, read, u8_of_toNat named]
  rfl

end request

/-- Settles O33: the six bytes are read as R8 says, and the entry read is stored or the field refused; the
emptied shadow bank is the one of cold reset. -/
theorem writeGroupAndClearShadowStoreInTheShadow : Obligations.WriteGroupAndClearShadowStoreInTheShadow := by
  constructor
  · intro s tag b0 b rest free length takes
    refine ⟨fun unnamed => ?_, fun g named stores storesIff => ?_⟩
    · apply writeGroup_answers free length takes
      simp only [writeGroupOwn, byteAt, List.getD_cons_zero, groupOf_none unnamed]
      rfl
    have stored {e : GroupEntry} (read : readGroupEntry b = .ok e) : stores e :=
      (storesIff e).mpr (writeGroup_stores free length takes named read)
    refine ⟨fun off => stored (readGroupEntry_off off), fun on field refusal => ?_, fun on refusal => ?_⟩
    · exact writeGroup_refuses free length takes named (readGroupEntry_refused on refusal)
    · have pass := groupBytesPass_of_groupRefusal refusal
      exact ⟨groupOfBytes b, groupOfBytes_trigger pass on, groupOfBytes_legal pass on,
        groupOfBytes_bytes length pass, stored (readGroupEntry_passed on refusal)⟩
  · intro s tag rest free takes
    refine ⟨Bank.empty, fun p => Vector.getElem_replicate _, fun g => Vector.getElem_replicate _, ?_⟩
    refine take_answers (o := .clearShadow) takes rfl (.inr free) ?_
    cases bank : s.map.active <;>
      simp only [Operation.own, clearShadowOwn, taken_map, MapStore.setShadowBank, MapStore.setBank, bank,
        BankName.other, answerOk] <;> rfl

end Sys2Proof.Machine
end

section
/-! PROOF. Every step keeps the map and the votes in range (O56): what the two banks hold after each operation on
them, and the votes that each rewrite of a record leaves. -/

namespace Sys2Proof.Machine

-- One proof after the other: many at once ask for too many threads.
set_option Elab.async false

/-! ## Banks -/

theorem PointEntry.invalid_legal : PointEntry.invalid.legal := by
  unfold PointEntry.legal
  decide

theorem GroupEntry.groupOff_legal : GroupEntry.groupOff.legal := by
  unfold GroupEntry.legal
  decide

/-- An entry that WRITE_POINT stores is in range (R4, R5). -/
theorem readPointEntry_legal {b : List Byte} {e : PointEntry} (read : readPointEntry b = .ok e) : e.legal := by
  by_cases off : byteAt b 0 = 0#8
  · rw [readPointEntry_invalid off] at read
    cases read
    exact PointEntry.invalid_legal
  cases refusal : pointRefusal b with
  | some field => rw [readPointEntry_refused off refusal] at read; cases read
  | none =>
    rw [readPointEntry_passed off refusal] at read
    cases read
    exact pointOfBytes_legal (pointBytesPass_of_pointRefusal refusal)

/-- An entry that WRITE_GROUP stores is in range (R7, R8). -/
theorem readGroupEntry_legal {b : List Byte} {e : GroupEntry} (read : readGroupEntry b = .ok e) : e.legal := by
  by_cases off : byteAt b 0 = 0#8
  · rw [readGroupEntry_off off] at read
    cases read
    exact GroupEntry.groupOff_legal
  cases refusal : groupRefusal b with
  | some field => rw [readGroupEntry_refused off refusal] at read; cases read
  | none =>
    rw [readGroupEntry_passed off refusal] at read
    cases read
    exact groupOfBytes_legal (groupBytesPass_of_groupRefusal refusal) off

namespace Bank

variable {b : Bank}

theorem setPoint_points (b : Bank) (p q : PointId) (e : Stored PointEntry) :
    (b.setPoint p e).points[q] = if q = p then e else b.points[q] := rowSet_apply b.points p q e

theorem setGroup_groups (b : Bank) (g h : GroupId) (e : Stored GroupEntry) :
    (b.setGroup g e).groups[h] = if h = g then e else b.groups[h] := rowSet_apply b.groups g h e

@[simp] theorem setPoint_groups (b : Bank) (p : PointId) (e : Stored PointEntry) :
    (b.setPoint p e).groups = b.groups := rfl

@[simp] theorem setGroup_points (b : Bank) (g : GroupId) (e : Stored GroupEntry) :
    (b.setGroup g e).points = b.points := rfl

theorem clearMarks_points (b : Bank) (p : PointId) :
    b.clearMarks.points[p] = { b.points[p] with mark := false } := rowsMap_apply _ b.points p

theorem clearMarks_groups (b : Bank) (g : GroupId) :
    b.clearMarks.groups[g] = { b.groups[g] with mark := false } := rowsMap_apply _ b.groups g

theorem empty_points (p : PointId) : Bank.empty.points[p] = PointEntry.invalid.stored := Vector.getElem_replicate _

theorem empty_groups (g : GroupId) : Bank.empty.groups[g] = GroupEntry.groupOff.stored := Vector.getElem_replicate _

theorem setPoint_legal {p : PointId} {e : Stored PointEntry} (legal : b.legal) (new : e.entry.legal) :
    (b.setPoint p e).legal := by
  obtain ⟨points, groups⟩ := legal
  refine ⟨fun q => ?_, groups⟩
  rw [setPoint_points]
  split
  · exact new
  · exact points q

theorem setGroup_legal {g : GroupId} {e : Stored GroupEntry} (legal : b.legal) (new : e.entry.legal) :
    (b.setGroup g e).legal := by
  obtain ⟨points, groups⟩ := legal
  refine ⟨points, fun h => ?_⟩
  rw [setGroup_groups]
  split
  · exact new
  · exact groups h

theorem setPoint_unmarked {p : PointId} {e : Stored PointEntry} (unmarked : b.unmarked) (new : e.mark = false) :
    (b.setPoint p e).unmarked := by
  obtain ⟨points, groups⟩ := unmarked
  refine ⟨fun q => ?_, groups⟩
  rw [setPoint_points]
  split
  · exact new
  · exact points q

theorem setGroup_unmarked {g : GroupId} {e : Stored GroupEntry} (unmarked : b.unmarked) (new : e.mark = false) :
    (b.setGroup g e).unmarked := by
  obtain ⟨points, groups⟩ := unmarked
  refine ⟨points, fun h => ?_⟩
  rw [setGroup_groups]
  split
  · exact new
  · exact groups h

theorem clearMarks_legal (legal : b.legal) : b.clearMarks.legal := by
  obtain ⟨points, groups⟩ := legal
  refine ⟨fun p => ?_, fun g => ?_⟩
  · rw [clearMarks_points]
    exact points p
  · rw [clearMarks_groups]
    exact groups g

theorem clearMarks_unmarked (b : Bank) : b.clearMarks.unmarked := by
  refine ⟨fun p => ?_, fun g => ?_⟩
  · rw [clearMarks_points]
  · rw [clearMarks_groups]

theorem empty_legal : Bank.empty.legal := by
  refine ⟨fun p => ?_, fun g => ?_⟩
  · rw [empty_points]
    exact PointEntry.invalid_legal
  · rw [empty_groups]
    exact GroupEntry.groupOff_legal

theorem empty_unmarked : Bank.empty.unmarked := by
  refine ⟨fun p => ?_, fun g => ?_⟩
  · rw [empty_points]
    rfl
  · rw [empty_groups]
    rfl

theorem copyEntry_legal {active shadow : Bank} (position : Nat) (from_ : active.legal) (legal : shadow.legal) :
    (copyEntry active shadow position).legal := by
  unfold copyEntry
  split
  · exact setPoint_legal legal (from_.1 _)
  · exact setGroup_legal legal (from_.2 _)

theorem copyEntry_unmarked (active : Bank) {shadow : Bank} (position : Nat) (unmarked : shadow.unmarked) :
    (copyEntry active shadow position).unmarked := by
  unfold copyEntry
  split
  · exact setPoint_unmarked unmarked rfl
  · exact setGroup_unmarked unmarked rfl

end Bank

namespace MapStore

/-- The exchange brings the shadow bank into service as it stands (R103). -/
theorem exchange_activeBank (m : MapStore) : m.exchange.activeBank = m.shadowBank := by
  cases bank : m.active <;>
    simp [exchange, activeBank, shadowBank, setActiveBank, setBank, MapStore.bank, BankName.other, bank]

/-- The exchange leaves the old active bank in the shadow role with its marks cleared (R15, R103). -/
theorem exchange_shadowBank (m : MapStore) : m.exchange.shadowBank = m.activeBank.clearMarks := by
  cases bank : m.active <;>
    simp [exchange, activeBank, shadowBank, setActiveBank, setBank, MapStore.bank, BankName.other, bank]

/-- Both banks are in range, by their roles, and the shadow bank carries no mark. -/
def InRange (m : MapStore) : Prop := m.activeBank.legal ∧ m.shadowBank.legal ∧ m.shadowBank.unmarked

variable {m : MapStore}

theorem InRange.setActiveBank {b : Bank} (h : m.InRange) (new : b.legal) : (m.setActiveBank b).InRange := by
  obtain ⟨-, shadow, unmarked⟩ := h
  unfold InRange
  rw [setActiveBank_activeBank, setActiveBank_shadowBank]
  exact ⟨new, shadow, unmarked⟩

theorem InRange.setShadowBank {b : Bank} (h : m.InRange) (new : b.legal) (unmarked : b.unmarked) :
    (m.setShadowBank b).InRange := by
  unfold InRange
  rw [setShadowBank_activeBank, setShadowBank_shadowBank]
  exact ⟨h.1, new, unmarked⟩

theorem InRange.exchange (h : m.InRange) : m.exchange.InRange := by
  obtain ⟨active, shadow, -⟩ := h
  unfold InRange
  rw [exchange_activeBank, exchange_shadowBank]
  exact ⟨shadow, Bank.clearMarks_legal active, Bank.clearMarks_unmarked _⟩

end MapStore

theorem mapLegal_iff (s : State) : s.mapLegal ↔ s.map.InRange ∧ ∀ p : PointId, s.records[p].legal := by
  unfold State.mapLegal MapStore.InRange MapStore.activeBank MapStore.shadowBank
  cases s.map.active
  · simp only [MapStore.bank, BankName.other, and_assoc]
  · simp only [MapStore.bank, BankName.other]
    tauto

/-! ## Votes (R24, R35 to R40) -/

namespace RuntimeRecord

theorem legal_congr {r x : RuntimeRecord} (condition : x.condition = r.condition) (vote : x.vote = r.vote)
    (h : r.legal) : x.legal := by
  unfold legal
  rw [condition, vote]
  exact h

/-- A record with no votes is legal whatever its condition. -/
theorem legal_of_noVotes {r : RuntimeRecord} (vote : r.vote = 0) : r.legal := by
  unfold legal
  rw [vote]
  exact ⟨Nat.zero_le 7, fun _ => rfl⟩

end RuntimeRecord

/-- An evaluation leaves NORMAL or ABNORMAL with fewer votes than qualify (R37 to R40). -/
theorem evaluate_judged (e : PointEntry) (c : Condition) (vote : Nat) (v : Value) :
    ((evaluate e c vote v).1 = .normal ∨ (evaluate e c vote v).1 = .abnormal) ∧
      ((evaluate e c vote v).2 = 0 ∨ (evaluate e c vote v).2 < e.qualify) := by
  unfold evaluate
  split
  · split
    · split
      · exact ⟨.inr rfl, .inl rfl⟩
      · next few => exact ⟨.inl rfl, .inr (Nat.lt_of_not_le few)⟩
    · exact ⟨.inl rfl, .inl rfl⟩
  · split
    · split
      · exact ⟨.inl rfl, .inl rfl⟩
      · next few => exact ⟨.inr rfl, .inr (Nat.lt_of_not_le few)⟩
    · exact ⟨.inr rfl, .inl rfl⟩
  · split
    · exact ⟨.inr rfl, .inl rfl⟩
    · exact ⟨.inl rfl, .inl rfl⟩

theorem conditionStage_legal {e : PointEntry} (arrival : Time) (restart : Condition → Option Timer) (x : Reading)
    {r : RuntimeRecord} (qualify : e.qualify ≤ 8) (h : r.legal) :
    (conditionStage e arrival restart x r).legal := by
  unfold conditionStage
  split
  · exact h
  split
  · exact RuntimeRecord.legal_of_noVotes rfl
  · obtain ⟨judged, votes⟩ := evaluate_judged e r.condition r.vote x.value
    constructor
    · show (evaluate e r.condition r.vote x.value).2 ≤ 7
      omega
    · intro unjudged
      rcases judged with n | n <;>
        exact absurd unjudged (by simp [n])

theorem reconcileRecord_legal (s : State) (p : PointId) {r : RuntimeRecord} (h : r.legal) :
    (reconcileRecord s p r).legal := by
  unfold reconcileRecord
  dsimp only
  split
  · split
    · exact RuntimeRecord.legal_congr rfl rfl h
    · exact h
  · exact RuntimeRecord.legal_of_noVotes rfl

/-! ## Events -/

variable {s : State}

theorem mapLegal_looks : LooksOnlyAt [.map, .records] State.mapLegal := by
  intro bs s t changed apart legal
  unfold State.mapLegal
  rw [changed.map (apart _ (by simp)), changed.records (apart _ (by simp))]
  exact legal

theorem setMap_mapLegal {m : MapStore} (new : m.InRange) (legal : s.mapLegal) : (s.setMap m).mapLegal :=
  (mapLegal_iff _).mpr ⟨new, ((mapLegal_iff s).mp legal).2⟩

theorem setRecord_mapLegal {p : PointId} {r : RuntimeRecord} (new : r.legal) (legal : s.mapLegal) :
    (s.setRecord p r).mapLegal := by
  obtain ⟨range, records⟩ := (mapLegal_iff s).mp legal
  refine (mapLegal_iff _).mpr ⟨range, fun q => ?_⟩
  rw [State.setRecord_records, rowSet_apply]
  split
  · exact new
  · exact records q

/-- A change of the index under construction alone keeps the banks. -/
theorem setPartialIndex_mapLegal (index : List KeyRow) (legal : s.mapLegal) :
    (setPartialIndex index s).mapLegal := legal

theorem faultPoint_mapLegal (p : PointId) (legal : s.mapLegal) : (faultPoint p s).mapLegal := by
  obtain ⟨range, records⟩ := (mapLegal_iff s).mp legal
  rw [faultPoint_eq]
  refine mapLegal_looks (raiseDevice_changes _ _) (by simp) ((mapLegal_iff _).mpr ⟨?_, fun q => ?_⟩)
  · exact range.setActiveBank (Bank.setPoint_legal range.1 (range.1.1 p))
  · show (rowSet s.records p _)[q].legal
    rw [rowSet_apply]
    split
    · exact RuntimeRecord.legal_of_noVotes rfl
    · exact records q

theorem faultGroup_mapLegal (g : GroupId) (legal : s.mapLegal) : (faultGroup g s).mapLegal := by
  obtain ⟨range, records⟩ := (mapLegal_iff s).mp legal
  rw [faultGroup_eq]
  exact mapLegal_looks (raiseDevice_changes _ _) (by simp)
    ((mapLegal_iff _).mpr ⟨range.setActiveBank (Bank.setGroup_legal range.1 (range.1.2 g)), records⟩)

theorem mapLegal_keptBySamples (l : LaneId) : KeptBySamples l State.mapLegal where
  raise slot c s := mapLegal_looks (raiseInto_changes s slot c) (by simp)
  offer m s := mapLegal_looks (offerData_changes s m) (by simp)
  faultPoint p s := faultPoint_mapLegal p
  faultGroup g s := faultGroup_mapLegal g
  count _ legal := legal
  place _ _ _ _ legal := legal
  remember p s r condition vote _ legal :=
    setRecord_mapLegal (RuntimeRecord.legal_congr condition vote (((mapLegal_iff s).mp legal).2 p)) legal
  judge key p s arrival x r lane found condition vote timer legal := by
    obtain ⟨range, records⟩ := (mapLegal_iff s).mp legal
    obtain ⟨-, -, -, -, -, -, qualify, -⟩ := range.1.1 p
    exact setRecord_mapLegal
      (conditionStage_legal arrival _ x qualify (RuntimeRecord.legal_congr condition vote (records p))) legal

theorem staleExpiryEvent_mapLegal (p : PointId) (legal : s.mapLegal) : (staleExpiryEvent p s).mapLegal := by
  have stale : State.mapLegal (s.setRecord p { s.records[p] with condition := .stale, vote := 0, timer := none }) :=
    setRecord_mapLegal (RuntimeRecord.legal_of_noVotes rfl) legal
  unfold staleExpiryEvent
  dsimp only
  split
  · split
    · exact mapLegal_looks (raiseInto_changes _ _ _) (by simp) stale
    · exact stale
  · exact legal

theorem periodTimerExpiryEvent_mapLegal (g : GroupId) (legal : s.mapLegal) :
    (periodTimerExpiryEvent g s).mapLegal := by
  unfold periodTimerExpiryEvent
  dsimp only
  split
  · exact (mapLegal_keptBySamples 0).assembleReport (s := s.setPeriodTimer g _) legal g .periodic
  · exact legal

theorem copyActiveEntryEvent_mapLegal (legal : s.mapLegal) : (copyActiveEntryEvent s).mapLegal := by
  obtain ⟨range, -⟩ := (mapLegal_iff s).mp legal
  obtain ⟨active, shadow, unmarked⟩ := range
  have copied : (advance (s.setMap (s.map.setShadowBank
      (copyEntry s.map.activeBank s.map.shadowBank s.mgmt.tracker.position)))).mapLegal :=
    mapLegal_looks (advance_changes _) (by simp)
      (setMap_mapLegal (.setShadowBank ⟨active, shadow, unmarked⟩ (Bank.copyEntry_legal _ active shadow)
        (Bank.copyEntry_unmarked _ _ unmarked)) legal)
  unfold copyActiveEntryEvent
  dsimp only
  split
  · split
    · exact copied
    · exact mapLegal_looks (endLongOp_changes _ _ _) (by simp) copied
  · exact legal

theorem checkPassEntryEvent_mapLegal (legal : s.mapLegal) : (checkPassEntryEvent s).mapLegal := by
  unfold checkPassEntryEvent
  dsimp only
  split
  · split
    · exact mapLegal_looks (endLongOp_changes _ _ _) (by simp) (setPartialIndex_mapLegal [] legal)
    · have passed (index : List KeyRow) : (advance (setPartialIndex index s)).mapLegal :=
        mapLegal_looks (advance_changes _) (by simp) (setPartialIndex_mapLegal index legal)
      split
      · exact passed _
      · exact passed _
  · exact legal

theorem commitCompletionEvent_mapLegal (legal : s.mapLegal) : (commitCompletionEvent s).mapLegal := by
  obtain ⟨range, records⟩ := (mapLegal_iff s).mp legal
  unfold commitCompletionEvent
  dsimp only
  split
  · refine mapLegal_looks (endLongOp_changes _ _ _) (by simp) ((mapLegal_iff _).mpr ⟨range.exchange, fun p => ?_⟩)
    show (rowsMap (reconcileRecord s) s.records)[p].legal
    rw [rowsMap_apply]
    exact reconcileRecord_legal s p (records p)
  · exact legal

theorem warmRestart_mapLegal (legal : s.mapLegal) : (warmRestart s).mapLegal := by
  obtain ⟨range, -⟩ := (mapLegal_iff s).mp legal
  obtain ⟨slots, records, e, -, each⟩ := warmRestart_eq s
  rw [e]
  refine (mapLegal_iff _).mpr ⟨range, fun p => ?_⟩
  show records[p].legal
  rw [each p]
  exact RuntimeRecord.legal_of_noVotes rfl

theorem disableLane_mapLegal (l : LaneId) (legal : s.mapLegal) : (disableLane l s).mapLegal := by
  obtain ⟨range, records⟩ := (mapLegal_iff s).mp legal
  obtain ⟨lanes, records', closed, rfl, e, -, each⟩ := disableLane_eq s l
  have shut : State.mapLegal { s with lanes := lanes, records := records' } := by
    refine (mapLegal_iff _).mpr ⟨range, fun p => ?_⟩
    show records'[p].legal
    rw [each p]
    split
    · exact RuntimeRecord.legal_of_noVotes rfl
    · exact records p
  rw [e]
  split
  · exact mapLegal_looks (disposeRelay_changes _ _) (by simp) shut
  · exact shut

theorem enableLane_mapLegal (l : LaneId) (legal : s.mapLegal) : (enableLane l s).mapLegal := by
  obtain ⟨range, records⟩ := (mapLegal_iff s).mp legal
  obtain ⟨lanes, records', e, -, each⟩ := enableLane_eq s l
  rw [e]
  refine (mapLegal_iff _).mpr ⟨range, fun p => ?_⟩
  show records'[p].legal
  rw [each p]
  split
  · exact RuntimeRecord.legal_congr rfl rfl (records p)
  · exact records p

theorem applySetLane_mapLegal (l : LaneId) (on : Bool) (settings : LaneSettings) (legal : s.mapLegal) :
    (applySetLane l on settings s).mapLegal := by
  unfold applySetLane
  dsimp only
  split
  · split
    · exact legal
    · exact disableLane_mapLegal l legal
  · split
    · exact enableLane_mapLegal l legal
    · exact legal

theorem storePoint_mapLegal (p : PointId) {e : PointEntry} (new : e.legal) (legal : s.mapLegal) :
    (storePoint p e s).mapLegal := by
  obtain ⟨range, -⟩ := (mapLegal_iff s).mp legal
  obtain ⟨active, shadow, unmarked⟩ := range
  exact setMap_mapLegal (.setShadowBank ⟨active, shadow, unmarked⟩ (Bank.setPoint_legal shadow new)
    (Bank.setPoint_unmarked unmarked rfl)) legal

theorem storeGroup_mapLegal (g : GroupId) {e : GroupEntry} (new : e.legal) (legal : s.mapLegal) :
    (storeGroup g e s).mapLegal := by
  obtain ⟨range, -⟩ := (mapLegal_iff s).mp legal
  obtain ⟨active, shadow, unmarked⟩ := range
  exact setMap_mapLegal (.setShadowBank ⟨active, shadow, unmarked⟩ (Bank.setGroup_legal shadow new)
    (Bank.setGroup_unmarked unmarked rfl)) legal

/-- The requests that reach the map or the records keep them in range. -/
theorem operationEvent_mapLegal (o : Operation) (legal : s.mapLegal) : (operationEvent o s).mapLegal := by
  have blind : BlindToTakes State.mapLegal := .of_looksOnlyAt mapLegal_looks (by simp)
  refine blind.operationEvent (fun tag operands u legal => ?_) legal
  cases o
  case writePoint =>
    rcases writePointOwn_state u tag operands with e | ⟨p, entry, read, e⟩
    · exact e.symm ▸ legal
    · exact e.symm ▸ storePoint_mapLegal p (readPointEntry_legal read) legal
  case writeGroup =>
    rcases writeGroupOwn_state u tag operands with e | ⟨g, entry, read, e⟩
    · exact e.symm ▸ legal
    · exact e.symm ▸ storeGroup_mapLegal g (readGroupEntry_legal read) legal
  case clearShadow =>
    exact setMap_mapLegal (((mapLegal_iff u).mp legal).1.setShadowBank Bank.empty_legal Bank.empty_unmarked) legal
  case commit =>
    rcases commitOwn_state u tag operands with e | e
    · exact e.symm ▸ legal
    · exact e.symm ▸ setPartialIndex_mapLegal [] legal
  case readCondition =>
    rcases readConditionOwn_state u tag operands with e | ⟨p, e⟩
    · exact e.symm ▸ legal
    · exact e.symm ▸ setRecord_mapLegal
        (RuntimeRecord.legal_congr rfl rfl (((mapLegal_iff u).mp legal).2 p)) legal
  case setLane =>
    rcases setLaneOwn_state u tag operands with e | ⟨l, on, settings, e⟩
    · exact e.symm ▸ legal
    · exact e.symm ▸ applySetLane_mapLegal l on settings legal
  case triggerGroup =>
    rcases triggerGroupOwn_state u tag operands with e | ⟨g, e | ⟨-, e⟩⟩
    · exact e.symm ▸ legal
    · exact e.symm ▸ faultGroup_mapLegal g legal
    · exact e.symm ▸ legal
  all_goals exact mapLegal_looks (own_changes u _ tag operands) (by simp [operationBlocks]) legal

theorem commandEvent_mapLegal (i : Instr) (s : State) (legal : s.mapLegal) : (commandEvent i s).mapLegal := by
  have completion : KeptByCompletion State.mapLegal :=
    .of_looksOnlyAt mapLegal_looks (by simp) fun _ => warmRestart_mapLegal
  cases i
  case frameTaken => exact frameTakenEvent_keeps legal (fun _ _ _ _ => legal) mapLegal_keptBySamples
  case staleExpiry p => exact staleExpiryEvent_mapLegal p legal
  case periodTimerExpiry g => exact periodTimerExpiryEvent_mapLegal g legal
  case copyActiveEntry => exact copyActiveEntryEvent_mapLegal legal
  case checkPassEntry => exact checkPassEntryEvent_mapLegal legal
  case commitCompletion => exact commitCompletionEvent_mapLegal legal
  case transmissionCompletion => exact completion.transmissionCompletionEvent legal
  case writePoint => exact operationEvent_mapLegal .writePoint legal
  case writeGroup => exact operationEvent_mapLegal .writeGroup legal
  case clearShadow => exact operationEvent_mapLegal .clearShadow legal
  case commit => exact operationEvent_mapLegal .commit legal
  case readCondition => exact operationEvent_mapLegal .readCondition legal
  case setLane => exact operationEvent_mapLegal .setLane legal
  case triggerGroup => exact operationEvent_mapLegal .triggerGroup legal
  all_goals
    exact mapLegal_looks (commandEvent_changes s _)
      (by simp [commandBlocks, operationBlocks, teardownBlocks]) legal

theorem atColdReset_mapLegal (cause : RestartCause) (hold : Bool) (straps : Fin 8) (queue : List Instr)
    (number : Nat) : (State.atColdReset cause hold straps queue number).mapLegal := by
  refine ⟨Bank.empty_legal, Bank.empty_legal, Bank.empty_unmarked, fun p => ?_⟩
  have row : (Vector.replicate 256 RuntimeRecord.cleared)[p] = RuntimeRecord.cleared := Vector.getElem_replicate _
  show (Vector.replicate 256 RuntimeRecord.cleared)[p].legal
  rw [row]
  exact RuntimeRecord.legal_of_noVotes rfl

/-- Settles O56: case by case over the events: what is stored in a bank or a record is in range. -/
theorem everyStepKeepsTheMapAndVotesInRange : Obligations.EveryStepKeepsTheMapAndVotesInRange :=
  kept_of_events mapLegal_looks (by simp) atColdReset_mapLegal commandEvent_mapLegal

end Sys2Proof.Machine
end

section
/-! PROOF. Every step keeps every queue within its capacity and, outside a session, the queues and the stack empty
(O57): an event that places nothing only shortens queues, and each placement finds the room its rule asks for. -/

namespace Sys2Proof.Machine

-- One proof after the other: many at once ask for too many threads.
set_option Elab.async false

/-! ## Reservations (R174) -/

theorem sum_rows {α : Type} {n : Nat} (v : Vector α n) (f : α → Nat) :
    (v.toList.map f).sum = ∑ i : Fin n, f v[i] := by
  rw [← List.sum_ofFn]
  congr 1
  apply List.ext_getElem <;> simp

theorem sum_rowSet {α : Type} {n : Nat} (v : Vector α n) (f : α → Nat) (i : Fin n) (x : α) :
    ((rowSet v i x).toList.map f).sum + f v[i] = (v.toList.map f).sum + f x := by
  have others : ∑ j ∈ Finset.univ.erase i, f (rowSet v i x)[j] = ∑ j ∈ Finset.univ.erase i, f v[j] :=
    Finset.sum_congr rfl fun j member => by rw [rowSet_other v x (Finset.ne_of_mem_erase member)]
  rw [sum_rows, sum_rows, ← Finset.add_sum_erase _ _ (Finset.mem_univ i),
    ← Finset.add_sum_erase _ (fun j => f v[j]) (Finset.mem_univ i), others, rowSet_self]
  omega

/-- The confirmed relay frames' reservations over a state's pairs (R174). -/
def relayReservations (pairs : Vector Pair 4) : Nat := (pairs.toList.map (fun p => p.relay.reserved)).sum

theorem reservations_eq (s : State) : s.reservations = s.mgmt.reservation.toNat + relayReservations s.pairs := rfl

theorem relayReservations_rowSet (pairs : Vector Pair 4) (k : PairId) (x : Pair) :
    relayReservations (rowSet pairs k x) + pairs[k].relay.reserved =
      relayReservations pairs + x.relay.reserved := sum_rowSet pairs _ k x

theorem relayReservations_zero {pairs : Vector Pair 4} (none : ∀ k : PairId, pairs[k].relay.reserved = 0) :
    relayReservations pairs = 0 := by
  rw [relayReservations, sum_rows]
  exact Finset.sum_eq_zero fun k _ => none k

theorem RelayTransmitter.reset_reserved : RelayTransmitter.reset.reserved = 0 := rfl

/-- The reservations of a transmitter are its frame in transmission's and its queue's. -/
theorem RelayTransmitter.reserved_eq (r : RelayTransmitter) :
    r.reserved = r.sending.toList.countP (fun f => f.confirm == some .reserved) +
      r.queue.countP (fun f => f.confirm == some .reserved) := List.countP_append

/-- A relay frame's RELAY_DONE takes the entry that the frame holds (R142, R145). -/
theorem doneMessages_length (k : PairId) (outcome : RelayOutcome) (fs : List RelayFrame) :
    (fs.flatMap (doneMessages k outcome)).length = fs.countP (fun f => f.confirm == some .reserved) := by
  induction fs with
  | nil => rfl
  | cons f fs ih =>
    rw [List.flatMap_cons, List.length_append, ih, List.countP_cons, doneMessages]
    simp only [beq_iff_eq]
    split
    · exact Nat.add_comm 1 _
    · exact Nat.zero_add _

/-! ## The law by its fields -/

/-- The law of a session's queues and timers, field by field. -/
structure Session (s : State) : Prop where
  alertQ : s.out.alertQ.length ≤ 8
  reply : s.out.replyQ.length + s.reservations ≤ 4
  dataQ : s.out.dataQ.length ≤ 32
  inbound : s.link.inbound.length ≤ 4
  cache : s.mgmt.cache.length ≤ 8
  tags : (s.mgmt.cache.map (fun e => e.tag)).Nodup
  fifo : ∀ l : LaneId, s.lanes[l].fifo.length ≤ 4
  relay : ∀ k : PairId, s.pairs[k].relay.queue.length ≤ 4
  closed : s.link.state ≠ .active → s.out.alertQ = [] ∧ s.out.replyQ = [] ∧ s.out.dataQ = [] ∧ s.stack = [] ∧
    s.link.inbound = [] ∧ s.reservations = 0 ∧ s.link.silenceTimer = none
  wakeTimer : s.link.state ≠ .waking → s.link.wakeTimer = none
  owed : s.mgmt.tracker.replyOwed = true → s.mgmt.reservation = true

theorem session_iff (s : State) : Session s ↔ s.sessionLegal := by
  constructor
  · rintro ⟨alertQ, reply, dataQ, inbound, cache, tags, fifo, relay, closed, wakeTimer, owed⟩
    exact ⟨⟨alertQ, reply, dataQ, inbound, cache, tags, fifo, relay⟩, closed, wakeTimer, owed⟩
  · rintro ⟨⟨alertQ, reply, dataQ, inbound, cache, tags, fifo, relay⟩, closed, wakeTimer, owed⟩
    exact ⟨alertQ, reply, dataQ, inbound, cache, tags, fifo, relay, closed, wakeTimer, owed⟩

variable {s t : State}

/-- Something that stands in a session's queues, stack or timers shows that the link is ACTIVE. -/
theorem Session.active (h : Session s)
    (stands : s.out.alertQ ≠ [] ∨ s.stack ≠ [] ∨ s.link.inbound ≠ []) : s.link.state = .active := by
  by_contra closed
  obtain ⟨alertQ, -, -, stack, inbound, -⟩ := h.closed closed
  rcases stands with n | n | n
  · exact n alertQ
  · exact n stack
  · exact n inbound

theorem sessionLegal_looks : LooksOnlyAt [.stack, .lanes, .pairs, .link, .out, .mgmt] Session := by
  intro bs s t changed apart h
  have stack := changed.stack (apart _ (by simp))
  have lanes := changed.lanes (apart _ (by simp))
  have pairs := changed.pairs (apart _ (by simp))
  have link := changed.link (apart _ (by simp))
  have out := changed.out (apart _ (by simp))
  have mgmt := changed.mgmt (apart _ (by simp))
  have reservations : t.reservations = s.reservations := by rw [reservations_eq, pairs, mgmt, reservations_eq]
  constructor <;> simp only [stack, lanes, pairs, link, out, mgmt, reservations]
  exacts [h.alertQ, h.reply, h.dataQ, h.inbound, h.cache, h.tags, h.fifo, h.relay, h.closed, h.wakeTimer, h.owed]

/-! ## Events that place nothing more than they free -/

/-- State `t` holds no more than state `s` in any queue, in the same state of the link. -/
structure HoldsNoMore (s t : State) : Prop where
  state : t.link.state = s.link.state := by rfl
  silence : t.link.silenceTimer = s.link.silenceTimer := by rfl
  wakeTimer : t.link.wakeTimer = s.link.wakeTimer := by rfl
  alertQ : t.out.alertQ.length ≤ s.out.alertQ.length := by exact Nat.le_refl _
  reply : t.out.replyQ.length + t.reservations ≤ s.out.replyQ.length + s.reservations := by exact Nat.le_refl _
  dataQ : t.out.dataQ.length ≤ s.out.dataQ.length := by exact Nat.le_refl _
  stack : t.stack.length ≤ s.stack.length := by exact Nat.le_refl _
  inbound : t.link.inbound.length ≤ s.link.inbound.length := by exact Nat.le_refl _
  cache : (t.mgmt.cache.map (fun e => e.tag)).Sublist (s.mgmt.cache.map (fun e => e.tag)) := by
    exact List.Sublist.refl _
  fifo : ∀ l : LaneId, t.lanes[l].fifo.length ≤ s.lanes[l].fifo.length := by exact fun _ => Nat.le_refl _
  relay : ∀ k : PairId, t.pairs[k].relay.queue.length ≤ s.pairs[k].relay.queue.length := by
    exact fun _ => Nat.le_refl _
  owed : (s.mgmt.tracker.replyOwed = true → s.mgmt.reservation = true) →
    t.mgmt.tracker.replyOwed = true → t.mgmt.reservation = true := by exact id

theorem HoldsNoMore.session (more : HoldsNoMore s t) (h : Session s) : Session t where
  alertQ := more.alertQ.trans h.alertQ
  reply := more.reply.trans h.reply
  dataQ := more.dataQ.trans h.dataQ
  inbound := more.inbound.trans h.inbound
  cache := by simpa using more.cache.length_le.trans (by simpa using h.cache)
  tags := more.cache.nodup h.tags
  fifo l := (more.fifo l).trans (h.fifo l)
  relay k := (more.relay k).trans (h.relay k)
  closed notActive := by
    obtain ⟨alertQ, replyQ, dataQ, stack, inbound, reservations, silence⟩ := h.closed (more.state ▸ notActive)
    have reply := more.reply
    rw [replyQ, reservations, List.length_nil, Nat.add_zero, Nat.le_zero, Nat.add_eq_zero_iff] at reply
    exact ⟨List.eq_nil_of_length_eq_zero (Nat.le_zero.mp (by simpa [alertQ] using more.alertQ)),
      List.eq_nil_of_length_eq_zero reply.1,
      List.eq_nil_of_length_eq_zero (Nat.le_zero.mp (by simpa [dataQ] using more.dataQ)),
      List.eq_nil_of_length_eq_zero (Nat.le_zero.mp (by simpa [stack] using more.stack)),
      List.eq_nil_of_length_eq_zero (Nat.le_zero.mp (by simpa [inbound] using more.inbound)),
      reply.2, more.silence.trans silence⟩
  wakeTimer notWaking := more.wakeTimer.trans (h.wakeTimer (more.state ▸ notWaking))
  owed := more.owed h.owed

/-- A rewrite of one pair holds no more when it shortens its relay queue and frees reservations. -/
theorem setPair_holdsNoMore {k : PairId} {x : Pair} (queue : x.relay.queue.length ≤ s.pairs[k].relay.queue.length)
    (reserved : x.relay.reserved ≤ s.pairs[k].relay.reserved) : HoldsNoMore s (s.setPair k x) where
  reply := by
    have sum := relayReservations_rowSet s.pairs k x
    rw [reservations_eq, reservations_eq]
    simp only [State.setPair_out, State.setPair_mgmt, State.setPair_pairs]
    omega
  relay j := by
    rw [State.setPair_pairs, rowSet_apply]
    split
    · next e => exact e ▸ queue
    · exact Nat.le_refl _

theorem setLane_holdsNoMore {l : LaneId} {x : Lane} (fifo : x.fifo.length ≤ s.lanes[l].fifo.length) :
    HoldsNoMore s (s.setLane l x) where
  fifo i := by
    rw [State.setLane_lanes, rowSet_apply]
    split
    · next e => exact e ▸ fifo
    · exact Nat.le_refl _

/-! ## The wake demand, raises and offers -/

theorem offerWake_frame (s : State) : ∃ out : Outbound,
    offerWake s = { s with link := { s.link with wakeCount := s.link.wakeCount + 1 }, out := out } ∧
      out = { s.out with sending := out.sending, wakeOffer := out.wakeOffer } := by
  refine ⟨(offerWake s).out, rfl, ?_⟩
  unfold offerWake
  dsimp only
  split <;> rfl

theorem offerWake_session (h : Session s) : Session (offerWake s) := by
  obtain ⟨out, e, same⟩ := offerWake_frame s
  rw [e, same]
  exact HoldsNoMore.session {} h

theorem wakeCheck_session (h : Session s) : Session (wakeCheck s) := by
  unfold wakeCheck
  split
  · next wakes =>
    refine offerWake_session ?_
    have closed := h.closed (by rw [wakes.1]; decide)
    exact { h with
      closed := fun _ => closed
      wakeTimer := fun notWaking => absurd rfl notWaking }
  · exact h

theorem raiseInto_session (slot : Option SlotId) (c : Cause) (h : Session s) : Session (raiseInto slot c s) := by
  cases slot with
  | none => exact h
  | some k => exact wakeCheck_session (HoldsNoMore.session {} h)

theorem raiseDevice_session (d : DeviceCause) (h : Session s) : Session (raiseDevice d s) :=
  raiseInto_session _ _ h

theorem placeAlert_session (m : Message) (active : s.link.state = .active) (room : s.out.alertQ.length < 8)
    (h : Session s) : Session (placeAlert m s) :=
  { h with
    alertQ := by simpa using room
    closed := fun notActive => absurd active notActive }

theorem placeData_session (m : Message) (active : s.link.state = .active) (room : s.out.dataQ.length < 32)
    (h : Session s) : Session (placeData m s) :=
  { h with
    dataQ := by simpa using room
    closed := fun notActive => absurd active notActive }

theorem placeReply_session (m : Message) (active : s.link.state = .active)
    (room : s.out.replyQ.length + s.reservations < 4) (h : Session s) : Session (placeReply m s) :=
  { h with
    reply := by
      show (s.out.replyQ ++ [m]).length + s.reservations ≤ 4
      rw [List.length_append, List.length_singleton]
      omega
    closed := fun notActive => absurd active notActive }

theorem offerData_session (m : Message) (h : Session s) : Session (offerData m s) := by
  rcases offerData_cases s m with ⟨-, e⟩ | ⟨active, room, e⟩ | ⟨-, -, e⟩ <;> rw [e]
  · exact HoldsNoMore.session {} h
  · exact placeData_session m active room h
  · exact raiseDevice_session _ (HoldsNoMore.session {} h)

theorem faultGroup_session (g : GroupId) (h : Session s) : Session (faultGroup g s) := by
  rw [faultGroup_eq]
  exact raiseDevice_session _ (HoldsNoMore.session {} h)

theorem session_keptBySamples (l : LaneId) : KeptBySamples l Session where
  raise slot c _ := raiseInto_session slot c
  offer m _ := offerData_session m
  faultPoint p s h := by
    rw [faultPoint_eq]
    exact raiseDevice_session _ (HoldsNoMore.session {} h)
  faultGroup g _ := faultGroup_session g
  count _ h := (setLane_holdsNoMore (l := l) (by exact Nat.le_refl _)).session h
  place m _ room active := placeData_session m active room
  remember _ _ _ _ _ _ h := HoldsNoMore.session {} h
  judge _ _ _ _ _ _ _ _ _ _ _ h := HoldsNoMore.session {} h

/-! ## Lanes -/

theorem Lane.accept_fifo {x : Lane} (f : Frame) (short : x.fifo.length ≤ 4) : (x.accept f).fifo.length ≤ 4 := by
  unfold Lane.accept
  split
  · next room => simpa [Config.fifoCapacity] using room
  · exact short

theorem frameEndEvent_session (l : LaneId) (cause : FrameEndCause) (chars : List Byte) (h : Session s) :
    Session (frameEndEvent l cause chars s) := by
  have dropped : s.lanes[l].drop.fifo = s.lanes[l].fifo := by
    unfold Lane.drop
    dsimp only
    split <;> rfl
  have failed (v : FrameVerdict) : (s.lanes[l].error s.deviceTime v).fifo = s.lanes[l].fifo := by
    unfold Lane.error
    dsimp only
    split <;> rfl
  unfold frameEndEvent
  dsimp only
  split
  · exact h
  split
  · exact h
  split
  · exact (setLane_holdsNoMore (dropped ▸ Nat.le_refl _)).session h
  · split
    · next f _ =>
      refine { h with fifo := fun i => ?_ }
      rw [State.setLane_lanes, rowSet_apply]
      split
      · exact Lane.accept_fifo f (h.fifo l)
      · exact h.fifo i
    · have ended (v : FrameVerdict) : Session (s.setLane l (s.lanes[l].error s.deviceTime v)) :=
        (setLane_holdsNoMore (failed v ▸ Nat.le_refl _)).session h
      split
      · exact raiseDevice_session _ (ended _)
      · exact ended _
  · exact h
  · exact h

theorem holdoffExpiryEvent_session (l : LaneId) (h : Session s) : Session (holdoffExpiryEvent l s) := by
  have kept : s.lanes[l].holdoffEnd.fifo = s.lanes[l].fifo := by
    unfold Lane.holdoffEnd
    split <;> rfl
  unfold holdoffExpiryEvent
  split
  · exact (setLane_holdsNoMore (kept ▸ Nat.le_refl _)).session h
  · exact h

theorem laneFrameBeginEvent_session (l : LaneId) (h : Session s) : Session (laneFrameBeginEvent l s) := by
  have kept : s.lanes[l].begin.fifo = s.lanes[l].fifo := by
    unfold Lane.begin
    split
    · rfl
    · split <;> rfl
    · rfl
    · rfl
  unfold laneFrameBeginEvent
  split
  · exact h
  · exact (setLane_holdsNoMore (kept ▸ Nat.le_refl _)).session h

theorem frameTakenEvent_session (h : Session s) : Session (frameTakenEvent s) := by
  refine frameTakenEvent_keeps h (fun l f rest waits => ?_) session_keptBySamples
  have shorter : rest.length ≤ s.lanes[l].fifo.length := by rw [waits]; exact Nat.le_succ _
  have removed := (setLane_holdsNoMore (x := { s.lanes[l] with fifo := rest }) shorter).session h
  exact HoldsNoMore.session {} removed

/-! ## Long map operations (R97) -/

theorem CacheEntry.finish_tag (r : Reply) (e : CacheEntry) : (e.finish r).tag = e.tag := by
  unfold CacheEntry.finish
  split <;> rfl

/-- The end of a long map operation puts its reply in the entry it reserved (R97). -/
theorem endLongOp_session (status : Status) (results : List Byte) (h : Session s) :
    Session (endLongOp status results s) := by
  unfold endLongOp
  dsimp only
  split
  · next owed =>
    have reserved := h.owed owed
    refine HoldsNoMore.session (s := s) { reply := ?_, cache := ?_, owed := fun _ idle => by cases idle } h
    · rw [reservations_eq, reservations_eq, reserved]
      simp only [placeReply_out, placeReply_mgmt, placeReply_pairs, List.length_append, List.length_singleton,
        Bool.toNat_false, Bool.toNat_true]
      omega
    · have tags (r : Reply) : (s.mgmt.cache.map (CacheEntry.finish r)).map (fun e => e.tag) =
          s.mgmt.cache.map (fun e => e.tag) := by
        rw [List.map_map]
        exact List.map_congr_left fun e _ => CacheEntry.finish_tag r e
      rw [placeReply_mgmt, tags]
  · refine HoldsNoMore.session (s := s) { reply := ?_, owed := fun _ idle => by cases idle } h
    rw [reservations_eq, reservations_eq]
    simp only [Bool.toNat_false]
    omega

theorem copyActiveEntryEvent_session (h : Session s) : Session (copyActiveEntryEvent s) := by
  have copied (m : MapStore) : Session (advance (s.setMap m)) := HoldsNoMore.session {} h
  unfold copyActiveEntryEvent
  dsimp only
  split
  · split
    · exact copied _
    · exact endLongOp_session _ _ (copied _)
  · exact h

theorem checkPassEntryEvent_session (h : Session s) : Session (checkPassEntryEvent s) := by
  have indexed (index : List KeyRow) : Session (setPartialIndex index s) := HoldsNoMore.session {} h
  unfold checkPassEntryEvent
  dsimp only
  split
  · split
    · exact endLongOp_session _ _ (indexed _)
    · have passed (index : List KeyRow) : Session (advance (setPartialIndex index s)) := HoldsNoMore.session {} h
      split
      · exact passed _
      · exact HoldsNoMore.session {} (passed _)
  · exact h

theorem commitCompletionEvent_session (h : Session s) : Session (commitCompletionEvent s) := by
  unfold commitCompletionEvent
  dsimp only
  split
  · exact endLongOp_session _ _ (HoldsNoMore.session {} h)
  · exact h

/-! ## Alerts -/

theorem captureEvent_session (h : Session s) : Session (captureEvent s) := by
  unfold captureEvent
  split
  · exact h
  · next k chosen =>
    obtain ⟨⟨active, room, -⟩, -⟩ := State.selection_eq_some_iff.mp chosen
    refine placeAlert_session _ active room ?_
    exact { h with closed := fun notActive => absurd active notActive }

theorem updateRecord_length (number : AlertNumber) (change : InService → InService) (stack : List InService) :
    (updateRecord number change stack).length = stack.length := List.length_map _

theorem setStack_session {stack : List InService} (shorter : stack.length ≤ s.stack.length) (h : Session s) :
    Session (s.setStack stack) := HoldsNoMore.session { stack := shorter } h

theorem acknowledgementTimerExpiryEvent_session (number : AlertNumber) (h : Session s) :
    Session (acknowledgementTimerExpiryEvent number s) := by
  unfold acknowledgementTimerExpiryEvent
  split
  · exact h
  · next r found =>
    have active := h.active (.inr (.inl (List.ne_nil_of_mem (List.mem_of_find?_eq_some found))))
    have changed (change : InService → InService) : Session (s.setStack (updateRecord r.number change s.stack)) :=
      setStack_session (updateRecord_length _ _ _).le h
    split
    · unfold repeatRecord
      split
      · next few =>
        have free := Outbound.alertFree_pos_iff.mp (Nat.zero_lt_of_lt few)
        exact placeAlert_session _ active free (changed _)
      · exact changed _
    · have removed : Session (s.setStack (s.stack.filter (fun x => x.number != r.number))) :=
        setStack_session (List.length_filter_le _ _) h
      unfold lapseRecord
      dsimp only
      refine raiseDevice_session _ ?_
      split
      · next free => exact placeAlert_session _ active (Outbound.alertFree_pos_iff.mp free) removed
      · exact HoldsNoMore.session {} removed

theorem owedRepeatPlacementEvent_session (h : Session s) : Session (owedRepeatPlacementEvent s) := by
  unfold owedRepeatPlacementEvent
  split
  · exact h
  · next r found =>
    have stands : r ∈ s.stack := List.mem_reverse.mp (List.mem_of_find?_eq_some found)
    have active := h.active (.inr (.inl (List.ne_nil_of_mem stands)))
    split
    · next free =>
      exact placeAlert_session _ active (Outbound.alertFree_pos_iff.mp free)
        (setStack_session (updateRecord_length _ _ _).le h)
    · exact h

/-! ## Transmissions -/

/-- A start takes a message from one queue at most. -/
theorem chooseStart_shorter {link : LinkState} {o : Outbound} {start : Start}
    (chosen : chooseStart link o = some start) :
    start.rest.alertQ.length ≤ o.alertQ.length ∧ start.rest.replyQ.length ≤ o.replyQ.length ∧
      start.rest.dataQ.length ≤ o.dataQ.length := by
  unfold chooseStart at chosen
  split at chosen
  · split at chosen
    · next queue => cases chosen; simp [queue]
    · next queue => cases chosen; simp [queue]
    · next queue => cases chosen; simp [queue]
    · cases chosen
  · obtain ⟨m, -, rfl⟩ := Option.map_eq_some_iff.mp chosen
    simp
  · cases chosen
  · cases chosen

theorem reportStart_length (m : Message) (stack : List InService) :
    (reportStart m stack).length = stack.length := by
  unfold reportStart
  split
  · exact List.length_map _
  · rfl

theorem transmissionStartEvent_session (h : Session s) : Session (transmissionStartEvent s) := by
  unfold transmissionStartEvent
  split
  · next chosen =>
    obtain ⟨alertQ, replyQ, dataQ⟩ := chooseStart_shorter chosen
    exact HoldsNoMore.session
      { alertQ := alertQ
        reply := Nat.add_le_add_right replyQ _
        dataQ := dataQ
        stack := (reportStart_length _ _).le } h
  · exact h

theorem enterDormant_session (may : s.mayEnterDormant = true) (h : Session s) : Session (enterDormant s) := by
  simp only [State.mayEnterDormant, Bool.and_eq_true, beq_iff_eq, List.isEmpty_iff] at may
  obtain ⟨⟨⟨⟨⟨active, stack⟩, alertQ⟩, replyQ⟩, reservations⟩, inbound⟩ := may
  have stopped := h.wakeTimer (by rw [active]; decide)
  refine wakeCheck_session { h with dataQ := Nat.zero_le _, closed := fun _ => ?_, wakeTimer := fun _ => stopped }
  exact ⟨alertQ, replyQ, rfl, stack, inbound, reservations, rfl⟩

theorem warmRestart_session : Session (warmRestart s) := by
  obtain ⟨slots, records, e, -⟩ := warmRestart_eq s
  have pairs (k : PairId) : (rowsMap (fun _ (p : Pair) => { p with relay := RelayTransmitter.reset }) s.pairs)[k].relay
      = RelayTransmitter.reset := by rw [rowsMap_apply]
  have reservations : (warmRestart s).reservations = 0 := by
    rw [reservations_eq, e]
    exact (Nat.zero_add _).trans (relayReservations_zero fun k => by rw [pairs]; rfl)
  have lanes (l : LaneId) : (rowsMap (fun _ (x : Lane) => x.warmRestart) s.lanes)[l].fifo = [] := by
    rw [rowsMap_apply]
    rfl
  rw [e] at reservations ⊢
  exact
    { alertQ := Nat.zero_le _
      reply := by rw [reservations]; exact Nat.zero_le _
      dataQ := Nat.zero_le _
      inbound := Nat.zero_le _
      cache := Nat.zero_le _
      tags := List.nodup_nil
      fifo := fun l => by
        show (rowsMap (fun _ (x : Lane) => x.warmRestart) s.lanes)[l].fifo.length ≤ 4
        rw [lanes]
        exact Nat.zero_le _
      relay := fun k => by
        show (rowsMap (fun _ (p : Pair) => { p with relay := RelayTransmitter.reset }) s.pairs)[k].relay.queue.length ≤ 4
        rw [pairs]
        exact Nat.zero_le _
      closed := fun _ => ⟨rfl, rfl, rfl, rfl, rfl, reservations, rfl⟩
      wakeTimer := fun _ => rfl
      owed := fun idle => by cases idle }

theorem session_keptByCompletion : KeptByCompletion Session where
  idle _ h := HoldsNoMore.session {} h
  alert _ _ h := setStack_session (List.length_map _).le h
  dormant _ may h := enterDormant_session may h
  restart _ _ := warmRestart_session
  told _ h := HoldsNoMore.session {} h

/-! ## The trunk -/

theorem teardown_session (h : Session s) : Session (teardown s) := by
  have reservations := teardown_reservations s
  exact
    { alertQ := Nat.zero_le _
      reply := by rw [reservations]; exact Nat.zero_le _
      dataQ := Nat.zero_le _
      inbound := Nat.zero_le _
      cache := Nat.zero_le _
      tags := List.nodup_nil
      fifo := h.fifo
      relay := fun k => by
        show (rowsMap (fun _ (p : Pair) => { p with relay := p.relay.cancel }) s.pairs)[k].relay.queue.length ≤ 4
        rw [rowsMap_apply]
        show (s.pairs[k].relay.queue.map RelayFrame.cancel).length ≤ 4
        rw [List.length_map]
        exact h.relay k
      closed := fun _ => ⟨rfl, rfl, rfl, rfl, rfl, reservations, rfl⟩
      wakeTimer := fun _ => rfl
      owed := fun idle => by cases idle }

theorem becomeActive_session (h : Session s) : Session (becomeActive s) :=
  { h with
    closed := fun notActive => absurd rfl notActive
    wakeTimer := fun _ => rfl }

theorem session_keptByTrunk : KeptByTrunk Session where
  teardown _ := teardown_session
  attach s offline h := by
    obtain ⟨-, replyQ, -, -, -, reservations, -⟩ := h.closed (by rw [offline]; decide)
    unfold attachMessage
    rw [if_pos offline]
    refine placeReply_session _ rfl ?_ (becomeActive_session h)
    show s.out.replyQ.length + s.reservations < 4
    rw [replyQ, reservations]
    decide
  active _ := becomeActive_session
  silence _ active h := { h with closed := fun notActive => absurd active notActive }
  receive _ _ _ h := HoldsNoMore.session {} h
  queue _ _ active room h :=
    { h with
      inbound := by simpa using room
      closed := fun notActive => absurd active notActive }
  wake s running h := by
    have waking : s.link.state = .waking := by
      by_contra notWaking
      exact running (h.wakeTimer notWaking)
    refine offerWake_session { h with wakeTimer := fun notWaking => absurd waking notWaking }

/-! ## Relay frames -/

/-- A started frame keeps its reservation (R142). -/
theorem RelayTransmitter.started_reserved {r : RelayTransmitter} {f : RelayFrame} {rest : List RelayFrame}
    (queue : r.queue = f :: rest) : (RelayTransmitter.mk .sending (some f) rest).reserved ≤ r.reserved := by
  rw [reserved_eq, reserved_eq, queue, List.countP_cons, Option.toList_some, List.countP_cons, List.countP_nil]
  dsimp only
  omega

/-- A completed frame frees the reservation that its RELAY_DONE takes (R142, R145). -/
theorem RelayTransmitter.completed_reserved {r : RelayTransmitter} {f : RelayFrame} (k : PairId)
    (sending : r.sending = some f) :
    (RelayTransmitter.mk .gap none r.queue).reserved + (doneMessages k .sent f).length = r.reserved := by
  have done := doneMessages_length k .sent [f]
  rw [List.flatMap_singleton] at done
  rw [reserved_eq, reserved_eq, sending, done, Option.toList_some, Option.toList_none, List.countP_nil]
  dsimp only
  omega

theorem relayTransmissionStartEvent_session (k : PairId) (h : Session s) :
    Session (relayTransmissionStartEvent k s) := by
  unfold relayTransmissionStartEvent
  dsimp only
  split
  · next f rest _ _ queue =>
    have taken := (setPair_holdsNoMore (x := ⟨s.pairs[k].mode, .sending, some f, rest⟩)
      (by rw [queue]; exact Nat.le_succ _) (RelayTransmitter.started_reserved queue)).session h
    exact HoldsNoMore.session {} taken
  · exact h

theorem relayTransmissionCompletionEvent_session (k : PairId) (h : Session s) :
    Session (relayTransmissionCompletionEvent k s) := by
  unfold relayTransmissionCompletionEvent
  dsimp only
  split
  · next f _ sending =>
    have freed := RelayTransmitter.completed_reserved k sending
    have sum := relayReservations_rowSet s.pairs k ⟨s.pairs[k].mode, .gap, none, s.pairs[k].relay.queue⟩
    dsimp only at sum
    rw [relayOutcome_eq]
    refine HoldsNoMore.session (s := s) { reply := ?_, relay := fun j => ?_ } h
    · rw [reservations_eq, reservations_eq]
      simp only [List.length_append, State.setPair_out, State.setPair_mgmt, State.setPair_pairs]
      omega
    · simp only [State.setPair_pairs, rowSet_apply]
      split
      · next e => rw [e]
      · exact Nat.le_refl _
  · exact h

theorem gapEndEvent_session (k : PairId) (h : Session s) : Session (gapEndEvent k s) := by
  unfold gapEndEvent
  dsimp only
  split
  · exact (setPair_holdsNoMore (k := k) (by exact Nat.le_refl _) (by exact Nat.le_refl _)).session h
  · exact h
  · exact h

end Sys2Proof.Machine
end

section
/-! PROOF. The law of O57 under the requests: a take happens with a Reply queue entry free, the cache has made room
for the new entry, and no operation's own effect takes that entry but a long map operation's start. -/

namespace Sys2Proof.Machine

-- One proof after the other: many at once ask for too many threads.
set_option Elab.async false

variable {s t : State} {tag : Tag}

/-! ## The reply cache (R189) -/

/-- Room in the cache leaves fewer than eight entries, none of them of the tag (R189). -/
theorem cacheRoom_makes_room {cache : List CacheEntry} (short : cache.length ≤ 8)
    (tags : (cache.map (fun e => e.tag)).Nodup) (tag : Tag) :
    (cacheRoom cache tag).length < 8 ∧ ((cacheRoom cache tag).map (fun e => e.tag)).Nodup ∧
      tag ∉ (cacheRoom cache tag).map (fun e => e.tag) := by
  unfold cacheRoom
  split
  · next present =>
    obtain ⟨e, member, same⟩ := List.any_eq_true.mp present
    have fewer : (cache.filter (fun e => e.tag != tag)).length < cache.length :=
      List.length_filter_lt_length_iff_exists.mpr ⟨e, member, by simpa using same⟩
    refine ⟨by omega, (List.filter_sublist.map _).nodup tags, fun present => ?_⟩
    obtain ⟨x, kept, rfl⟩ := List.mem_map.mp present
    simpa using (List.mem_filter.mp kept).2
  · next absent =>
    have other : tag ∉ cache.map (fun e => e.tag) := fun present => by
      obtain ⟨x, member, rfl⟩ := List.mem_map.mp present
      exact absent (List.any_eq_true.mpr ⟨x, member, beq_self_eq_true _⟩)
    split
    · next room => exact ⟨room, tags, other⟩
    · refine ⟨?_, ((List.tail_sublist cache).map _).nodup tags,
        fun present => other (((List.tail_sublist cache).map _).subset present)⟩
      rw [List.length_tail]
      omega

/-! ## The state in which a request is executed -/

/-- The law, with room for the reply and for the cache entry of a request with this tag. -/
structure Executing (tag : Tag) (s : State) : Prop where
  session : Session s
  active : s.link.state = .active
  room : s.out.replyQ.length + s.reservations < 4
  cache : s.mgmt.cache.length < 8
  fresh : tag ∉ s.mgmt.cache.map (fun e => e.tag)

theorem HoldsNoMore.executing (more : HoldsNoMore s t) (h : Executing tag s) : Executing tag t where
  session := more.session h.session
  active := more.state.trans h.active
  room := Nat.lt_of_le_of_lt more.reply h.room
  cache := by simpa using Nat.lt_of_le_of_lt more.cache.length_le (by simpa using h.cache)
  fresh present := h.fresh (more.cache.subset present)

theorem cacheInsert_session (op : Byte) (reply : Option Reply) (h : Session s) (active : s.link.state = .active)
    (cache : s.mgmt.cache.length < 8) (fresh : tag ∉ s.mgmt.cache.map (fun e => e.tag)) :
    Session (cacheInsert ⟨tag, op, reply⟩ s) :=
  { h with
    cache := by
      show (s.mgmt.cache ++ [_]).length ≤ 8
      rw [List.length_append, List.length_singleton]
      omega
    tags := by
      show ((s.mgmt.cache ++ [CacheEntry.mk tag op reply]).map (fun e => e.tag)).Nodup
      rw [List.map_append, List.map_singleton]
      exact List.nodup_append.mpr ⟨h.tags, List.nodup_singleton _,
        fun x member y last => by
          rw [List.mem_singleton] at last
          rintro rfl
          rw [last] at member
          exact fresh member⟩
    closed := fun notActive => absurd active notActive }

/-- What the execution of a request leaves: room for its reply, if it is answered now. -/
structure Executed (tag : Tag) (x : Execution) : Prop where
  session : Session x.state
  active : x.state.link.state = .active
  cache : x.state.mgmt.cache.length < 8
  fresh : tag ∉ x.state.mgmt.cache.map (fun e => e.tag)
  room : x.answer ≠ none → x.state.out.replyQ.length + x.state.reservations < 4

theorem Executing.executed {x : Execution} (h : Executing tag x.state) : Executed tag x :=
  ⟨h.session, h.active, h.cache, h.fresh, fun _ => h.room⟩

theorem closeTake_session {x : Execution} (op : Byte) (h : Executed tag x) : Session (closeTake tag op x) := by
  have inserted (reply : Option Reply) := cacheInsert_session op reply h.session h.active h.cache h.fresh
  unfold closeTake
  split
  · next a answered =>
    have room := h.room (by rw [answered]; exact Option.some_ne_none a)
    exact placeReply_session _ h.active room (inserted _)
  · exact inserted none

theorem replyFree_pos_iff : 0 < s.replyFree ↔ s.out.replyQ.length + s.reservations < 4 := Nat.sub_pos_iff_lt

theorem setInbound_holdsNoMore {rest : List (List Byte)} (shorter : rest.length ≤ s.link.inbound.length) :
    HoldsNoMore s (setInbound rest s) where
  inbound := shorter

/-- A take keeps the law when the execution of its request does (R187, R189). -/
theorem takeEvent_session {run : Tag → List Byte → State → Execution}
    (runs : ∀ tag operands u, Executing tag u → Executed tag (run tag operands u)) (names : Byte → Bool)
    (h : Session s) : Session (takeEvent names run s) := by
  rcases takeEvent_cases names run s with e | ⟨tag, op, operands, rest, oldest, free, taken⟩
  · exact e.symm ▸ h
  have active := h.active (.inr (.inr (by rw [oldest]; exact List.cons_ne_nil _ _)))
  have room := replyFree_pos_iff.mp free
  have removed := (setInbound_holdsNoMore (s := s) (rest := rest) (by rw [oldest]; exact Nat.le_succ _)).session h
  rcases taken with ⟨r, e⟩ | e | ⟨-, e⟩ <;> rw [e]
  · exact placeReply_session _ active room removed
  · exact removed
  · obtain ⟨short, tags, fresh⟩ := cacheRoom_makes_room h.cache h.tags tag
    refine closeTake_session op (runs tag operands _ ⟨?_, active, room, short, fresh⟩)
    exact { removed with cache := Nat.le_of_lt short, tags := tags }

/-! ## The operations' own effects -/

theorem raiseDevice_holdsNoMore (d : DeviceCause) (active : s.link.state = .active) :
    HoldsNoMore s (raiseDevice d s) := by
  obtain ⟨slots, e, -⟩ := raiseInto_awake s s.routing[d.code] (.device d) (by rw [active]; decide)
  rw [raiseDevice, e]
  exact {}

theorem faultGroup_executing (g : GroupId) (h : Executing tag s) : Executing tag (faultGroup g s) := by
  rw [faultGroup_eq]
  refine (raiseDevice_holdsNoMore .mapIntegrity ?_).executing (HoldsNoMore.executing (s := s) {} h)
  exact h.active

theorem popTop_holdsNoMore (top : InService) : HoldsNoMore s (popTop top s) where
  alertQ := by
    show (withdrawAlert top s.out.alertQ).length ≤ s.out.alertQ.length
    unfold withdrawAlert
    split
    · exact List.length_filter_le _ _
    · exact Nat.le_refl _
  stack := by
    show s.stack.dropLast.length ≤ s.stack.length
    rw [List.length_dropLast]
    exact Nat.sub_le _ 1

/-- The RELAY_DONEs of a disposal take the entries that its frames reserved (R142, R144). -/
theorem disposeRelay_holdsNoMore (k : PairId) : HoldsNoMore s (disposeRelay k s) := by
  have abandoned := doneMessages_length k .abandoned s.pairs[k].relay.sending.toList
  have discarded := doneMessages_length k .discarded s.pairs[k].relay.queue
  have held := s.pairs[k].relay.reserved_eq
  have sum := relayReservations_rowSet s.pairs k ⟨s.pairs[k].mode, RelayTransmitter.reset⟩
  dsimp only at sum
  rw [RelayTransmitter.reset_reserved] at sum
  rw [disposeRelay_eq]
  refine { reply := ?_, relay := fun j => ?_ }
  · rw [reservations_eq, reservations_eq]
    simp only [List.length_append]
    omega
  · rw [rowSet_apply]
    split
    · exact Nat.zero_le _
    · exact Nat.le_refl _

theorem HoldsNoMore.trans {u : State} (first : HoldsNoMore s t) (next : HoldsNoMore t u) : HoldsNoMore s u where
  state := next.state.trans first.state
  silence := next.silence.trans first.silence
  wakeTimer := next.wakeTimer.trans first.wakeTimer
  alertQ := next.alertQ.trans first.alertQ
  reply := next.reply.trans first.reply
  dataQ := next.dataQ.trans first.dataQ
  stack := next.stack.trans first.stack
  inbound := next.inbound.trans first.inbound
  cache := next.cache.trans first.cache
  fifo l := (next.fifo l).trans (first.fifo l)
  relay k := (next.relay k).trans (first.relay k)
  owed legal := next.owed (first.owed legal)

theorem disableLane_holdsNoMore (l : LaneId) : HoldsNoMore s (disableLane l s) := by
  obtain ⟨lanes, records, closed, rfl, e, each, -⟩ := disableLane_eq s l
  have shut : HoldsNoMore s { s with lanes := lanes, records := records } :=
    { fifo := fun i => by
        rw [each i]
        split
        · exact Nat.zero_le _
        · exact Nat.le_refl _ }
  rw [e]
  split
  · exact shut.trans (disposeRelay_holdsNoMore _)
  · exact shut

theorem enableLane_holdsNoMore (l : LaneId) : HoldsNoMore s (enableLane l s) := by
  obtain ⟨lanes, records, e, each, -⟩ := enableLane_eq s l
  have cleared : HoldsNoMore s
      { s with
        pairs :=
          if s.joined l = true then rowSet s.pairs (pairOf l) ⟨s.pairs[pairOf l].mode, RelayTransmitter.reset⟩
          else s.pairs } := by
    split
    · exact setPair_holdsNoMore (Nat.zero_le _) (Nat.zero_le _)
    · exact {}
  rw [e]
  refine cleared.trans { fifo := fun i => ?_ }
  rw [each i]
  split
  · exact Nat.zero_le _
  · exact Nat.le_refl _

theorem applySetLane_holdsNoMore (l : LaneId) (on : Bool) (settings : LaneSettings) :
    HoldsNoMore s (applySetLane l on settings s) := by
  have written : HoldsNoMore s (s.setLane l { s.lanes[l] with settings := settings }) :=
    setLane_holdsNoMore (Nat.le_refl _)
  unfold applySetLane
  dsimp only
  split
  · split
    · exact {}
    · exact disableLane_holdsNoMore l
  · split
    · exact written.trans (enableLane_holdsNoMore l)
    · exact written

/-- A RELAY that is placed with confirmation had two entries free, and reserves one (R141, R142). -/
theorem placeRelay_executing {l : LaneId} {confirm : Bool} (o : List Byte)
    (passes : firstFailure (relayRefusals l confirm s) = none) (h : Executing tag s) :
    Executing tag (placeRelay (pairOf l) (relayFrameOf tag o confirm) s) := by
  rw [relayRefusals_verdict] at passes
  simp only [ite_some_eq_none_iff] at passes
  obtain ⟨-, -, room, free, -⟩ := passes
  obtain ⟨f, hf⟩ : ∃ f, f = relayFrameOf tag o confirm := ⟨_, rfl⟩
  obtain ⟨relay, hr⟩ : ∃ relay : RelayTransmitter, relay =
      { s.pairs[pairOf l].relay with queue := s.pairs[pairOf l].relay.queue ++ [f] } := ⟨_, rfl⟩
  have placed : placeRelay (pairOf l) f s = s.setPair (pairOf l) ⟨s.pairs[pairOf l].mode, relay⟩ := by
    rw [hr]
    rfl
  have reserves : relay.reserved = s.pairs[pairOf l].relay.reserved + if confirm then 1 else 0 := by
    rw [hr, hf, RelayTransmitter.reserved_eq, RelayTransmitter.reserved_eq, List.countP_append]
    cases confirm <;> simp [relayFrameOf, Nat.add_assoc]
  have sum := relayReservations_rowSet s.pairs (pairOf l) ⟨s.pairs[pairOf l].mode, relay⟩
  have before := h.room
  have reserved : (s.setPair (pairOf l) ⟨s.pairs[pairOf l].mode, relay⟩).reservations +
      s.pairs[pairOf l].relay.reserved = s.reservations + relay.reserved := by
    rw [reservations_eq, reservations_eq, State.setPair_mgmt, State.setPair_pairs]
    dsimp only at sum
    omega
  have after : s.out.replyQ.length +
      (s.setPair (pairOf l) ⟨s.pairs[pairOf l].mode, relay⟩).reservations < 4 := by
    have two (asked : confirm = true) : 2 ≤ s.replyFree := Nat.le_of_not_lt fun few => free ⟨asked, few⟩
    simp only [State.replyFree, Config.replyCapacity] at two
    cases confirm
    · simp only [Bool.false_eq_true, if_false, Nat.add_zero] at reserves
      omega
    · simp only [if_true] at reserves
      have := two rfl
      omega
  rw [← hf, placed]
  refine { h with session := ?_, room := after }
  refine { h.session with
    reply := Nat.le_of_lt after
    relay := fun k => ?_
    closed := fun notActive => absurd h.active notActive }
  rw [State.setPair_pairs, rowSet_apply]
  split
  · rw [hr]
    simpa using room
  · exact h.session.relay k

/-- A long map operation's start reserves the entry that its take found free, and is not answered (R97). -/
theorem startLongOp_executed (o : LongOp) (phase : Phase) (number : Tag) (h : Executing tag s) :
    Executed tag ⟨startLongOp o phase number s, none⟩ where
  session := { h.session with
    reply := by
      show s.out.replyQ.length + (true.toNat + relayReservations s.pairs) ≤ 4
      have room := h.room
      rw [reservations_eq] at room
      rw [Bool.toNat_true]
      omega
    closed := fun notActive => absurd h.active notActive
    owed := fun _ => rfl }
  active := h.active
  cache := h.cache
  fresh := h.fresh
  room none := absurd rfl none

theorem own_executed (o : Operation) (operands : List Byte) (h : Executing tag s) :
    Executed tag (o.own tag operands s) := by
  cases o
  case copyActive => exact startLongOp_executed .copyActive .copying tag h
  case commit =>
    show Executed tag (commitOwn tag operands s)
    unfold commitOwn
    split
    · exact Executing.executed h
    · exact startLongOp_executed .commit .checking tag (s := setPartialIndex [] s) (HoldsNoMore.executing {} h)
  all_goals refine Executing.executed ?_
  case writePoint =>
    rcases writePointOwn_state s tag operands with e | ⟨p, entry, -, e⟩
    · exact e.symm ▸ h
    · exact e.symm ▸ HoldsNoMore.executing {} h
  case writeGroup =>
    rcases writeGroupOwn_state s tag operands with e | ⟨g, entry, -, e⟩
    · exact e.symm ▸ h
    · exact e.symm ▸ HoldsNoMore.executing {} h
  case clearShadow => exact HoldsNoMore.executing {} h
  case readCondition =>
    rcases readConditionOwn_state s tag operands with e | ⟨p, e⟩
    · exact e.symm ▸ h
    · exact e.symm ▸ HoldsNoMore.executing {} h
  case setSlot =>
    rcases setSlotOwn_state s tag operands with e | ⟨k, level, mask, e⟩
    · exact e.symm ▸ h
    · exact e.symm ▸ HoldsNoMore.executing {} h
  case clearSlot =>
    rcases clearSlotOwn_state s tag operands with e | ⟨k, e⟩
    · exact e.symm ▸ h
    · exact e.symm ▸ HoldsNoMore.executing {} h
  case setRoute =>
    rcases setRouteOwn_state s tag operands with e | ⟨routing, e⟩
    · exact e.symm ▸ h
    · exact e.symm ▸ HoldsNoMore.executing {} h
  case alertDone =>
    rcases alertDoneOwn_state s tag operands with e | ⟨top, -, e⟩
    · exact e.symm ▸ h
    · exact e.symm ▸ (popTop_holdsNoMore top).executing h
  case setLane =>
    rcases setLaneOwn_state s tag operands with e | ⟨l, on, settings, e⟩
    · exact e.symm ▸ h
    · exact e.symm ▸ (applySetLane_holdsNoMore l on settings).executing h
  case clearLaneCounters =>
    rcases clearLaneCountersOwn_state s tag operands with e | ⟨l, e⟩
    · exact e.symm ▸ h
    · exact e.symm ▸ (setLane_holdsNoMore (l := l) (by exact Nat.le_refl _)).executing h
  case setPair =>
    rcases setPairOwn_state s tag operands with e | ⟨k, mode, -, e⟩
    · exact e.symm ▸ h
    · exact e.symm ▸ (setPair_holdsNoMore (k := k) (by exact Nat.le_refl _) (by exact Nat.le_refl _)).executing h
  case relay =>
    rcases relayOwn_state s tag operands with e | ⟨l, confirm, passes, e⟩
    · exact e.symm ▸ h
    · exact e.symm ▸ placeRelay_executing operands passes h
  case triggerGroup =>
    rcases triggerGroupOwn_state s tag operands with e | ⟨g, e | ⟨room, e⟩⟩
    · exact e.symm ▸ h
    · exact e.symm ▸ faultGroup_executing g h
    · exact e.symm ▸ { h with session := placeData_session _ h.active room h.session }
  case setTrunk =>
    rcases setTrunkOwn_state s tag operands with e | ⟨params, e⟩
    · exact e.symm ▸ h
    · exact e.symm ▸ { h with session := { h.session with closed := fun notActive => absurd h.active notActive } }
  case readPoint => exact (readPointOwn_state s tag operands).symm ▸ h
  case readGroup => exact (readGroupOwn_state s tag operands).symm ▸ h
  case readSlot => exact (readSlotOwn_state s tag operands).symm ▸ h
  case readLane => exact (readLaneOwn_state s tag operands).symm ▸ h
  case enterDormant => exact (enterDormantOwn_state s tag operands).symm ▸ h
  case readStack => exact h
  case readDevice => exact h
  case restart => exact h

theorem operationEvent_session (o : Operation) (h : Session s) : Session (operationEvent o s) := by
  refine takeEvent_session (fun tag operands u executing => ?_) _ h
  unfold executeTested
  split
  · exact Executing.executed executing
  split
  · exact Executing.executed executing
  · exact own_executed o operands executing

theorem shortRequestEvent_session (h : Session s) : Session (shortRequestEvent s) := by
  unfold shortRequestEvent
  split
  · next payload rest oldest =>
    split
    · have removed := (setInbound_holdsNoMore (s := s) (rest := rest)
        (by rw [oldest]; exact Nat.le_succ _)).session h
      exact HoldsNoMore.session {} removed
    · exact h
  · exact h

/-! ## Every event -/

theorem commandEvent_session (i : Instr) (s : State) (h : Session s) : Session (commandEvent i s) := by
  cases i
  case coldReset => exact h
  case resetRelease => exact h
  case frameEnd l cause chars => exact frameEndEvent_session l cause chars h
  case holdoffExpiry l => exact holdoffExpiryEvent_session l h
  case frameTaken => exact frameTakenEvent_session h
  case staleExpiry p =>
    show Session (staleExpiryEvent p s)
    have stale (r : RuntimeRecord) : Session (s.setRecord p r) := HoldsNoMore.session {} h
    unfold staleExpiryEvent
    dsimp only
    split
    · split
      · exact raiseInto_session _ _ (stale _)
      · exact stale _
    · exact h
  case periodTimerExpiry g =>
    show Session (periodTimerExpiryEvent g s)
    unfold periodTimerExpiryEvent
    dsimp only
    split
    · exact (session_keptBySamples 0).assembleReport (s := s.setPeriodTimer g _) (HoldsNoMore.session {} h) g .periodic
    · exact h
  case copyActiveEntry => exact copyActiveEntryEvent_session h
  case checkPassEntry => exact checkPassEntryEvent_session h
  case commitCompletion => exact commitCompletionEvent_session h
  case capture => exact captureEvent_session h
  case acknowledgementTimerExpiry number => exact acknowledgementTimerExpiryEvent_session number h
  case owedRepeatPlacement => exact owedRepeatPlacementEvent_session h
  case transmissionStart => exact transmissionStartEvent_session h
  case transmissionCompletion => exact session_keptByCompletion.transmissionCompletionEvent h
  case messageEnd cause chars => exact session_keptByTrunk.messageEndEvent h cause chars
  case attach payload => exact session_keptByTrunk.validMessageEvent h .attach payload
  case request payload => exact session_keptByTrunk.validMessageEvent h .request payload
  case keepalive payload => exact session_keptByTrunk.validMessageEvent h .keepalive payload
  case silenceTimerExpiry => exact session_keptByTrunk.silenceTimerExpiryEvent h
  case wakeTimerExpiry => exact session_keptByTrunk.wakeTimerExpiryEvent h
  case gapEnd k => exact gapEndEvent_session k h
  case relayTransmissionStart k => exact relayTransmissionStartEvent_session k h
  case relayTransmissionCompletion k => exact relayTransmissionCompletionEvent_session k h
  case shortRequest => exact shortRequestEvent_session h
  case badOp => exact takeEvent_session (fun _ _ _ executing => Executing.executed executing) _ h
  case laneFrameBegin l => exact laneFrameBeginEvent_session l h
  case trunkMessageBegin => exact session_keptByTrunk.trunkMessageBeginEvent h
  all_goals exact operationEvent_session _ h

theorem atColdReset_session (cause : RestartCause) (hold : Bool) (straps : Fin 8) (queue : List Instr)
    (number : Nat) : Session (State.atColdReset cause hold straps queue number) := by
  have lanes (l : LaneId) : (Vector.replicate 8 Lane.coldReset)[l] = Lane.coldReset := Vector.getElem_replicate _
  have pairs (k : PairId) : (Vector.replicate 4 Pair.coldReset)[k] = Pair.coldReset := Vector.getElem_replicate _
  have reservations : (State.atColdReset cause hold straps queue number).reservations = 0 := by
    rw [reservations_eq]
    exact (Nat.zero_add _).trans (relayReservations_zero fun k => congrArg (fun p => p.relay.reserved) (pairs k))
  exact
    { alertQ := Nat.zero_le _
      reply := by rw [reservations]; exact Nat.zero_le _
      dataQ := Nat.zero_le _
      inbound := Nat.zero_le _
      cache := Nat.zero_le _
      tags := List.nodup_nil
      fifo := fun l => by
        show (Vector.replicate 8 Lane.coldReset)[l].fifo.length ≤ 4
        rw [lanes]
        exact Nat.zero_le _
      relay := fun k => by
        show (Vector.replicate 4 Pair.coldReset)[k].relay.queue.length ≤ 4
        rw [pairs]
        exact Nat.zero_le _
      closed := fun _ => ⟨rfl, rfl, rfl, rfl, rfl, reservations, rfl⟩
      wakeTimer := fun _ => rfl
      owed := fun idle => by cases idle }

/-- Settles O57: case by case over the events, the requests by the room that their take found. -/
theorem everyStepKeepsQueuesWithinTheSession : Obligations.EveryStepKeepsQueuesWithinTheSession := by
  have law : State.sessionLegal = Session := funext fun s => propext (session_iff s).symm
  unfold Obligations.EveryStepKeepsQueuesWithinTheSession
  rw [law]
  exact kept_of_events sessionLegal_looks (by simp) atColdReset_session commandEvent_session

end Sys2Proof.Machine
end

section
/-! PROOF. Every step keeps the key index exact and every point out of hearing UNKNOWN (O59), first half: the index
is the list of the active bank's valid entries, and a check pass builds that list for the shadow bank. -/

namespace Sys2Proof.Machine

-- One proof after the other: many at once ask for too many threads.
set_option Elab.async false

/-! ## The list of a bank's valid entries (R9, R101) -/

theorem mem_indexOf (b : Bank) (bound : Nat) (row : KeyRow) : row ∈ indexOf b bound ↔
    b.points[row.point].entry.valid = true ∧ row.point.val < bound ∧ row.key = b.points[row.point].entry.key := by
  simp only [indexOf, List.mem_map, List.mem_filter, Bool.and_eq_true, decide_eq_true_eq]
  constructor
  · rintro ⟨⟨p, e⟩, ⟨member, valid, below⟩, rfl⟩
    rw [mem_rows] at member
    exact ⟨member ▸ valid, below, by rw [member]⟩
  · rintro ⟨valid, below, key⟩
    exact ⟨(row.point, b.points[row.point]), ⟨(mem_rows _ _ _).mpr rfl, valid, below⟩, by rw [← key]⟩

@[simp] theorem indexOf_zero (b : Bank) : indexOf b 0 = [] := by
  refine List.eq_nil_iff_forall_not_mem.mpr fun row member => ?_
  exact Nat.not_lt_zero _ ((mem_indexOf b 0 row).mp member).2.1

/-- The entry at a point id adds its row if it is valid (R101). -/
theorem indexOf_succ (b : Bank) (p : PointId) : indexOf b (p.val + 1) = indexOf b p.val ++
    if b.points[p].entry.valid = true then [⟨b.points[p].entry.key, p⟩] else [] := by
  obtain ⟨before, after, split⟩ := List.append_of_mem ((mem_rows b.points p b.points[p]).mpr rfl)
  have ordered := rows_ascending b.points
  rw [split, List.pairwise_append, List.pairwise_cons] at ordered
  obtain ⟨-, ⟨above, -⟩, below⟩ := ordered
  have low : ∀ row ∈ before, row.1.val < p.val := fun row member => below row member _ List.mem_cons_self
  have high : ∀ row ∈ after, ¬row.1.val < p.val + 1 := fun row member =>
    Nat.not_lt.mpr (Nat.succ_le_of_lt (above row member))
  have same : before.filter (fun row => row.2.entry.valid && decide (row.1.val < p.val + 1)) =
      before.filter (fun row => row.2.entry.valid && decide (row.1.val < p.val)) :=
    List.filter_congr fun row member => by
      rw [decide_eq_true (low row member), decide_eq_true (Nat.lt_succ_of_lt (low row member))]
  have none : after.filter (fun row => row.2.entry.valid && decide (row.1.val < p.val + 1)) = [] :=
    List.filter_eq_nil_iff.mpr fun row member => by simp [high row member]
  have none' : after.filter (fun row => row.2.entry.valid && decide (row.1.val < p.val)) = [] :=
    List.filter_eq_nil_iff.mpr fun row member => by
      have := high row member
      simp only [Bool.and_eq_true, decide_eq_true_eq, not_and]
      omega
  unfold indexOf
  rw [split, List.filter_append, List.filter_append, List.filter_cons, List.filter_cons, same, none, none']
  cases valid : b.points[p].entry.valid <;> simp

/-- Past the last point the list stands complete. -/
theorem indexOf_complete (b : Bank) {bound : Nat} (past : 256 ≤ bound) : indexOf b bound = indexOf b 256 := by
  unfold indexOf
  congr 1
  refine List.filter_congr fun row _ => ?_
  rw [decide_eq_true row.1.isLt, decide_eq_true (Nat.lt_of_lt_of_le row.1.isLt past)]

/-- The list depends on the entries alone, not on their codes and marks. -/
theorem indexOf_congr {b c : Bank} (same : ∀ p : PointId, b.points[p].entry = c.points[p].entry) (bound : Nat) :
    indexOf b bound = indexOf c bound := by
  have listed (d : Bank) : indexOf d bound =
      ((allFin 256).filter (fun p => d.points[p].entry.valid && decide (p.val < bound))).map
        (fun p => ⟨d.points[p].entry.key, p⟩) := by
    have rowsOf : rows d.points = (allFin 256).map (fun p => (p, d.points[p])) := by
      apply List.ext_getElem
      · simp [rows]
      · intro i _ _
        simp [rows, allFin_getElem]
    rw [indexOf, rowsOf, List.filter_map, List.map_map]
    rfl
  rw [listed, listed]
  simp only [same]

theorem Bank.setPoint_mark_entry (b : Bank) (p q : PointId) (mark : Bool) :
    (b.setPoint p { b.points[p] with mark := mark }).points[q].entry = b.points[q].entry := by
  rw [Bank.setPoint_points]
  split
  · next e => rw [e]
  · rfl

/-! ## The law on the index -/

variable {s t : State}

/-- The law looks at the entries of the two banks, at the two indexes and at the tracker. -/
theorem indexLegal_congr (keyIndex : t.map.keyIndex = s.map.keyIndex)
    (active : ∀ p : PointId, t.map.activeBank.points[p].entry = s.map.activeBank.points[p].entry)
    (building : t.mgmt.tracker.operation = .commit →
      s.mgmt.tracker = t.mgmt.tracker ∧ t.map.partialIndex = s.map.partialIndex ∧
        ∀ p : PointId, t.map.shadowBank.points[p].entry = s.map.shadowBank.points[p].entry)
    (legal : s.indexLegal) : t.indexLegal := by
  obtain ⟨exact', distinct, commit⟩ := legal
  refine ⟨?_, keyIndex ▸ distinct, fun running => ?_⟩
  · rw [keyIndex, exact', indexOf_congr active]
  · obtain ⟨tracker, partialIndex, shadow⟩ := building running
    rw [partialIndex, indexOf_congr shadow]
    rw [tracker] at commit
    exact commit running

theorem indexLegal_looks : LooksOnlyAt [.map, .mgmt] State.indexLegal := by
  intro bs s t changed apart legal
  unfold State.indexLegal
  rw [changed.map (apart _ (by simp)), changed.mgmt (apart _ (by simp))]
  exact legal

theorem faultPoint_indexLegal (p : PointId) (legal : s.indexLegal) : (faultPoint p s).indexLegal := by
  rw [faultPoint_eq]
  refine indexLegal_looks (raiseDevice_changes _ _) (by simp) (indexLegal_congr ?_ (fun q => ?_) (fun _ => ?_) legal)
  · exact (MapStore.setActiveBank_frame _ _).2.1
  · rw [MapStore.setActiveBank_activeBank]
    exact Bank.setPoint_mark_entry s.map.activeBank p q true
  · refine ⟨rfl, (MapStore.setActiveBank_frame _ _).2.2.2, fun q => ?_⟩
    rw [MapStore.setActiveBank_shadowBank]

theorem faultGroup_indexLegal (g : GroupId) (legal : s.indexLegal) : (faultGroup g s).indexLegal := by
  rw [faultGroup_eq]
  refine indexLegal_looks (raiseDevice_changes _ _) (by simp) (indexLegal_congr ?_ (fun q => ?_) (fun _ => ?_) legal)
  · exact (MapStore.setActiveBank_frame _ _).2.1
  · rw [MapStore.setActiveBank_activeBank]
    rfl
  · refine ⟨rfl, (MapStore.setActiveBank_frame _ _).2.2.2, fun q => ?_⟩
    rw [MapStore.setActiveBank_shadowBank]

theorem indexLegal_keptBySamples (l : LaneId) : KeptBySamples l State.indexLegal where
  raise slot c s := indexLegal_looks (raiseInto_changes s slot c) (by simp)
  offer m s := indexLegal_looks (offerData_changes s m) (by simp)
  faultPoint p _ := faultPoint_indexLegal p
  faultGroup g _ := faultGroup_indexLegal g
  count _ legal := legal
  place _ _ _ _ legal := legal
  remember _ _ _ _ _ _ legal := legal
  judge _ _ _ _ _ _ _ _ _ _ _ legal := legal

/-! ## Long map operations -/

/-- With no COMMIT in flight, a new shadow bank keeps the law. -/
theorem setShadowBank_indexLegal (b : Bank) (idle : s.mgmt.tracker.operation ≠ .commit) (legal : s.indexLegal) :
    (s.setMap (s.map.setShadowBank b)).indexLegal := by
  refine indexLegal_congr (MapStore.setShadowBank_frame _ _).2.1 (fun p => ?_) (fun running => absurd running idle) legal
  rw [State.setMap_map, MapStore.setShadowBank_activeBank]

/-- The end of a long map operation leaves the map alone and no operation in flight. -/
theorem endLongOp_indexLegal (status : Status) (results : List Byte)
    (exact' : s.map.keyIndex = indexOf s.map.activeBank 256) (distinct : keysDistinct s.map.keyIndex) :
    (endLongOp status results s).indexLegal := by
  have map := (endLongOp_changes s status results).map (by simp)
  unfold State.indexLegal
  rw [map]
  refine ⟨exact', distinct, fun running => ?_⟩
  rw [endLongOp_eq] at running
  cases running

theorem copyActiveEntryEvent_indexLegal (legal : s.indexLegal) : (copyActiveEntryEvent s).indexLegal := by
  unfold copyActiveEntryEvent
  dsimp only
  split
  · next copying =>
    have stored := setShadowBank_indexLegal (copyEntry s.map.activeBank s.map.shadowBank s.mgmt.tracker.position)
      (by rw [copying]; decide) legal
    have idle : ¬s.mgmt.tracker.operation = .commit := by rw [copying]; decide
    obtain ⟨exact', distinct, -⟩ := stored
    split
    · exact ⟨exact', distinct, fun running => absurd running idle⟩
    · exact endLongOp_indexLegal _ _ exact' distinct
  · exact legal

/-- An entry that passes the check leaves the list of the entries up to it, with no key twice (R101). -/
theorem checkEntry_builds {shadow : Bank} {position : Nat} {index : List KeyRow}
    (passed : checkEntry shadow position (indexOf shadow position) = .passed index)
    (distinct : keysDistinct (indexOf shadow position)) :
    index = indexOf shadow (position + 1) ∧ keysDistinct index := by
  by_cases below : position < 256
  · obtain ⟨p, rfl⟩ : ∃ p : PointId, position = p.val := ⟨⟨position, below⟩, rfl⟩
    have grows := indexOf_succ shadow p
    rw [checkEntry_point] at passed
    unfold checkPoint at passed
    split at passed
    · cases passed
    split at passed
    · next invalid =>
      cases passed
      rw [if_neg (by simpa using invalid), List.append_nil] at grows
      exact ⟨grows.symm, distinct⟩
    · next valid =>
      split at passed
      · cases passed
      · next fresh =>
        cases passed
        rw [if_pos (by simpa using valid)] at grows
        refine ⟨grows.symm, ?_⟩
        unfold keysDistinct at distinct ⊢
        rw [List.map_append, List.map_singleton, List.nodup_append]
        refine ⟨distinct, List.nodup_singleton _, fun key member other last => ?_⟩
        obtain ⟨row, there, rfl⟩ := List.mem_map.mp member
        rw [List.mem_singleton.mp last]
        exact fun same => by simpa [same] using List.find?_eq_none.mp fresh row there
  · have past := Nat.le_of_not_lt below
    rw [checkEntry, if_neg below] at passed
    unfold checkGroup at passed
    split at passed
    · cases passed
    · cases passed
      refine ⟨?_, distinct⟩
      rw [indexOf_complete shadow past, indexOf_complete shadow (Nat.le_succ_of_le past)]

theorem checkPassEntryEvent_indexLegal (legal : s.indexLegal) : (checkPassEntryEvent s).indexLegal := by
  obtain ⟨exact', distinct, commit⟩ := legal
  unfold checkPassEntryEvent
  dsimp only
  split
  · next running =>
    obtain ⟨committing, checking⟩ := running
    obtain ⟨built, partialDistinct, -⟩ := commit committing
    split
    · exact endLongOp_indexLegal _ _ exact' distinct
    · next index passed =>
      rw [built] at passed
      obtain ⟨grown, grownDistinct⟩ := checkEntry_builds passed (built ▸ partialDistinct)
      split
      · refine ⟨exact', distinct, fun _ => ⟨grown, grownDistinct, fun ready => ?_⟩⟩
        rw [show (advance (setPartialIndex index s)).mgmt.tracker.phase = .checking from checking] at ready
        cases ready
      · next last =>
        refine ⟨exact', distinct, fun _ => ⟨grown, grownDistinct, fun _ => ?_⟩⟩
        show 256 ≤ s.mgmt.tracker.position + 1
        simp only [Config.bankEntries] at last
        omega
  · exact ⟨exact', distinct, commit⟩

theorem commitCompletionEvent_indexLegal (legal : s.indexLegal) : (commitCompletionEvent s).indexLegal := by
  obtain ⟨exact', distinct, commit⟩ := legal
  unfold commitCompletionEvent
  dsimp only
  split
  · next running =>
    obtain ⟨built, partialDistinct, complete⟩ := commit running.1
    refine endLongOp_indexLegal _ _ ?_ partialDistinct
    show s.map.partialIndex = indexOf s.map.exchange.activeBank 256
    rw [MapStore.exchange_activeBank, built, indexOf_complete _ (complete running.2)]
  · exact ⟨exact', distinct, commit⟩

theorem warmRestart_indexLegal (legal : s.indexLegal) : (warmRestart s).indexLegal := by
  obtain ⟨exact', distinct, -⟩ := legal
  obtain ⟨slots, records, e, -⟩ := warmRestart_eq s
  rw [e]
  exact ⟨exact', distinct, fun running => by cases running⟩

/-! ## Requests and the other events -/

/-- A request's effect needs to keep a law only where its tests let it run: with no long map operation in flight, if
it names the map (R96, R192). -/
theorem BlindToTakes.operationEvent_free {law : State → Prop} (blind : BlindToTakes law) {o : Operation}
    (own : ∀ tag operands s, (namesMap o = true → s.mgmt.tracker.operation = .none) → law s →
      law (o.own tag operands s).state) {s : State} (legal : law s) : law (Machine.operationEvent o s) := by
  refine blind.takeEvent (fun tag operands u legal => ?_) _ legal
  unfold executeTested
  split
  · exact legal
  split
  · exact legal
  · next free =>
    refine own tag operands u (fun names => ?_) legal
    by_contra busy
    exact free ⟨names, busy⟩

theorem operationEvent_indexLegal (o : Operation) (legal : s.indexLegal) : (operationEvent o s).indexLegal := by
  have blind : BlindToTakes State.indexLegal := ⟨fun _ _ h => h, fun _ _ h => h, fun _ _ h => h⟩
  refine blind.operationEvent_free (fun tag operands u free legal => ?_) legal
  have notCommit (names : namesMap o = true) : u.mgmt.tracker.operation ≠ .commit := by
    rw [free names]
    decide
  cases o
  case writePoint =>
    rcases writePointOwn_state u tag operands with e | ⟨p, entry, -, e⟩
    · exact e.symm ▸ legal
    · exact e.symm ▸ setShadowBank_indexLegal _ (notCommit rfl) legal
  case writeGroup =>
    rcases writeGroupOwn_state u tag operands with e | ⟨g, entry, -, e⟩
    · exact e.symm ▸ legal
    · exact e.symm ▸ setShadowBank_indexLegal _ (notCommit rfl) legal
  case clearShadow => exact setShadowBank_indexLegal _ (notCommit rfl) legal
  case copyActive =>
    obtain ⟨exact', distinct, -⟩ := legal
    exact ⟨exact', distinct, fun running => by cases running⟩
  case commit =>
    rcases commitOwn_state u tag operands with e | e
    · exact e.symm ▸ legal
    · obtain ⟨exact', distinct, -⟩ := legal
      have started : (startLongOp .commit .checking tag (setPartialIndex [] u)).indexLegal :=
        ⟨exact', distinct, fun _ => ⟨(indexOf_zero _).symm, List.nodup_nil, fun ready => by cases ready⟩⟩
      exact e.symm ▸ started
  case triggerGroup =>
    rcases triggerGroupOwn_state u tag operands with e | ⟨g, e | ⟨-, e⟩⟩
    · exact e.symm ▸ legal
    · exact e.symm ▸ faultGroup_indexLegal g legal
    · exact e.symm ▸ legal
  all_goals exact indexLegal_looks (own_changes u _ tag operands) (by simp [operationBlocks]) legal

theorem indexLegal_keptByTrunk : KeptByTrunk State.indexLegal where
  teardown _ legal := legal
  attach s offline legal := by
    unfold attachMessage
    rw [if_pos offline]
    exact legal
  active _ legal := legal
  silence _ _ legal := legal
  receive _ _ _ legal := legal
  queue _ _ _ _ legal := legal
  wake _ _ legal := legal

theorem commandEvent_indexLegal (i : Instr) (s : State) (legal : s.indexLegal) : (commandEvent i s).indexLegal := by
  have completion : KeptByCompletion State.indexLegal :=
    .of_looksOnlyAt indexLegal_looks (by simp) fun _ => warmRestart_indexLegal
  cases i
  case frameTaken => exact frameTakenEvent_keeps legal (fun _ _ _ _ => legal) indexLegal_keptBySamples
  case periodTimerExpiry g =>
    show (periodTimerExpiryEvent g s).indexLegal
    unfold periodTimerExpiryEvent
    dsimp only
    split
    · exact (indexLegal_keptBySamples 0).assembleReport (s := s.setPeriodTimer g _) legal g .periodic
    · exact legal
  case copyActiveEntry => exact copyActiveEntryEvent_indexLegal legal
  case checkPassEntry => exact checkPassEntryEvent_indexLegal legal
  case commitCompletion => exact commitCompletionEvent_indexLegal legal
  case transmissionCompletion => exact completion.transmissionCompletionEvent legal
  case messageEnd cause chars => exact indexLegal_keptByTrunk.messageEndEvent legal cause chars
  case attach payload => exact indexLegal_keptByTrunk.validMessageEvent legal .attach payload
  case request payload => exact indexLegal_keptByTrunk.validMessageEvent legal .request payload
  case keepalive payload => exact indexLegal_keptByTrunk.validMessageEvent legal .keepalive payload
  case silenceTimerExpiry => exact indexLegal_keptByTrunk.silenceTimerExpiryEvent legal
  case wakeTimerExpiry => exact indexLegal_keptByTrunk.wakeTimerExpiryEvent legal
  case shortRequest =>
    show (shortRequestEvent s).indexLegal
    unfold shortRequestEvent
    split
    · split
      · exact legal
      · exact legal
    · exact legal
  case badOp =>
    have blind : BlindToTakes State.indexLegal := ⟨fun _ _ h => h, fun _ _ h => h, fun _ _ h => h⟩
    exact blind.takeEvent (fun _ _ _ legal => legal) _ legal
  case coldReset => exact legal
  case resetRelease => exact legal
  case frameEnd | holdoffExpiry | staleExpiry | capture | acknowledgementTimerExpiry | owedRepeatPlacement |
      transmissionStart | gapEnd | relayTransmissionStart | relayTransmissionCompletion | laneFrameBegin |
      trunkMessageBegin =>
    exact indexLegal_looks (commandEvent_changes s _) (by simp [commandBlocks]) legal
  all_goals exact operationEvent_indexLegal _ legal

theorem atColdReset_indexLegal (cause : RestartCause) (hold : Bool) (straps : Fin 8) (queue : List Instr)
    (number : Nat) : (State.atColdReset cause hold straps queue number).indexLegal := by
  refine ⟨?_, List.nodup_nil, fun running => by cases running⟩
  show [] = indexOf Bank.empty 256
  refine (List.eq_nil_iff_forall_not_mem.mpr fun row member => ?_).symm
  have valid := ((mem_indexOf _ _ _).mp member).1
  rw [Bank.empty_points] at valid
  cases valid

end Sys2Proof.Machine
end

section
/-! PROOF. Every step keeps the key index exact and every point out of hearing UNKNOWN (O59), second half: a timer, a
frame or a match shows that a point or a lane is in hearing, and what leaves hearing is cleared in its event. -/

namespace Sys2Proof.Machine

-- One proof after the other: many at once ask for too many threads.
set_option Elab.async false

variable {s t : State}

/-! ## Listening (R26) -/

theorem listening_congr {l : LaneId} (enabled : t.lanes[l].enabled = s.lanes[l].enabled)
    (mode : t.pairs[pairOf l].mode = s.pairs[pairOf l].mode) : t.listening l = s.listening l := by
  simp only [State.listening, State.transmitting, State.joined, enabled, mode]

theorem pointHeard_congr {p : PointId} (point : t.activePoint p = s.activePoint p)
    (listening : t.listening (s.activePoint p).entry.lane = s.listening (s.activePoint p).entry.lane) :
    t.pointHeard p = s.pointHeard p := by
  simp only [State.pointHeard, point, listening]

theorem pointHeard_iff (s : State) (p : PointId) : s.pointHeard p = true ↔
    (s.activePoint p).entry.valid = true ∧ (s.activePoint p).mark = false ∧
      s.listening (s.activePoint p).entry.lane = true := by
  simp only [State.pointHeard, pointUsable, Bool.and_eq_true, Bool.not_eq_true', and_assoc]

/-- A record as a point out of hearing has it: UNKNOWN with a stopped timer (R26). -/
def RuntimeRecord.Unheard (r : RuntimeRecord) : Prop := r.condition = .unknown ∧ r.timer = none

/-- A lane record as a lane that does not listen has it: no frame, no holdoff. -/
def Lane.Quiet (x : Lane) : Prop := x.fifo = [] ∧ x.frame = none ∧ x.holdoffTimer = none

theorem hearingLegal_iff (s : State) : s.hearingLegal ↔
    (∀ p : PointId, s.pointHeard p = false → s.records[p].Unheard) ∧
    (∀ l : LaneId, s.listening l = false → s.lanes[l].Quiet) ∧
    ∀ k : PairId, s.pairs[k].mode = .joined → s.lanes[evenLane k].enabled = s.lanes[oddLane k].enabled := Iff.rfl

/-- A running timer shows a point in hearing. -/
theorem heard_of_timer {p : PointId} {time : Time} (legal : s.hearingLegal)
    (due : timerDue time s.records[p].timer = true) : s.pointHeard p = true := by
  by_contra unheard
  rw [(legal.1 p (Bool.not_eq_true _ ▸ unheard)).2] at due
  cases due

/-- A lane that is not quiet listens. -/
theorem listening_of_busy {l : LaneId} (legal : s.hearingLegal)
    (busy : ¬s.lanes[l].Quiet) : s.listening l = true := by
  by_contra silent
  exact busy (legal.2.1 l (Bool.not_eq_true _ ▸ silent))

theorem enabled_of_listening {l : LaneId} (listens : s.listening l = true) : s.lanes[l].enabled = true := by
  unfold State.listening at listens
  exact (Bool.and_eq_true_iff.mp listens).1

/-! ## Changes that keep the law -/

theorem hearingLegal_congr (points : ∀ p : PointId, t.activePoint p = s.activePoint p) (records : t.records = s.records)
    (lanes : t.lanes = s.lanes) (modes : ∀ k : PairId, t.pairs[k].mode = s.pairs[k].mode)
    (legal : s.hearingLegal) : t.hearingLegal := by
  obtain ⟨silent, quiet, paired⟩ := legal
  have listens (l : LaneId) : t.listening l = s.listening l := listening_congr (by rw [lanes]) (modes _)
  refine ⟨fun p => ?_, fun l => ?_, fun k => ?_⟩
  · rw [pointHeard_congr (points p) (listens _), records]
    exact silent p
  · rw [listens, lanes]
    exact quiet l
  · rw [modes, lanes]
    exact paired k

theorem hearingLegal_looks : LooksOnlyAt [.map, .records, .lanes, .pairs] State.hearingLegal := by
  intro bs s t changed apart legal
  have map := changed.map (apart _ (by simp))
  refine hearingLegal_congr (fun p => ?_) (changed.records (apart _ (by simp))) (changed.lanes (apart _ (by simp)))
    (fun k => ?_) legal
  · rw [State.activePoint, map]
    rfl
  · rw [changed.pairs (apart _ (by simp))]

theorem setRecord_hearingLegal {p : PointId} {r : RuntimeRecord} (new : s.pointHeard p = false → r.Unheard)
    (legal : s.hearingLegal) : (s.setRecord p r).hearingLegal := by
  obtain ⟨silent, quiet, paired⟩ := legal
  refine ⟨fun q unheard => ?_, quiet, paired⟩
  rw [State.setRecord_records, rowSet_apply]
  split
  · next e => exact new (e ▸ unheard)
  · exact silent q unheard

/-- A rewrite of one lane keeps the law when it keeps the enable, and the quiet of a lane that does not listen. -/
theorem setLane_hearingLegal {l : LaneId} {x : Lane} (enabled : x.enabled = s.lanes[l].enabled)
    (new : s.listening l = false → x.Quiet) (legal : s.hearingLegal) : (s.setLane l x).hearingLegal := by
  obtain ⟨silent, quiet, paired⟩ := legal
  have enables (i : LaneId) : (s.setLane l x).lanes[i].enabled = s.lanes[i].enabled := by
    rw [State.setLane_lanes, rowSet_apply]
    split
    · next e => rw [e, enabled]
    · rfl
  have listens (i : LaneId) : (s.setLane l x).listening i = s.listening i := listening_congr (enables i) rfl
  refine ⟨fun p => ?_, fun i => ?_, fun k => ?_⟩
  · rw [pointHeard_congr (s := s) (t := s.setLane l x) rfl (listens _)]
    exact silent p
  · rw [listens, State.setLane_lanes, rowSet_apply]
    split
    · next e => exact fun deaf => new (e ▸ deaf)
    · exact quiet i
  · rw [enables, enables]
    exact paired k

/-- A rewrite of one pair keeps the law when it keeps the mode. -/
theorem setPair_hearingLegal {k : PairId} {x : Pair} (mode : x.mode = s.pairs[k].mode) (legal : s.hearingLegal) :
    (s.setPair k x).hearingLegal := by
  refine hearingLegal_congr (s := s) (t := s.setPair k x) (fun _ => rfl) rfl rfl (fun j => ?_) legal
  rw [State.setPair_pairs, rowSet_apply]
  split
  · next e => rw [e, mode]
  · rfl

theorem setShadowBank_hearingLegal (b : Bank) (legal : s.hearingLegal) :
    (s.setMap (s.map.setShadowBank b)).hearingLegal := by
  refine hearingLegal_congr (s := s) (t := s.setMap (s.map.setShadowBank b)) (fun p => ?_) rfl rfl
    (fun _ => rfl) legal
  rw [State.activePoint, State.setMap_map, MapStore.setShadowBank_activeBank]
  rfl

/-! ## Integrity marks and the samples of a frame -/

theorem faultPoint_hearingLegal (p : PointId) (legal : s.hearingLegal) : (faultPoint p s).hearingLegal := by
  obtain ⟨silent, quiet, paired⟩ := legal
  rw [faultPoint_eq]
  refine hearingLegal_looks (raiseDevice_changes _ _) (by simp) ⟨fun q unheard => ?_, quiet, paired⟩
  show (rowSet s.records p _)[q].Unheard
  rw [rowSet_apply]
  split
  · exact ⟨rfl, rfl⟩
  · next other =>
    have point : (s.setMap (s.map.setActiveBank (s.map.activeBank.setPoint p
        { s.activePoint p with mark := true }))).activePoint q = s.activePoint q := by
      rw [State.activePoint, State.setMap_map, MapStore.setActiveBank_activeBank, Bank.setPoint_points, if_neg other]
      rfl
    exact silent q ((pointHeard_congr (s := s) point rfl).symm.trans unheard)

theorem faultGroup_hearingLegal (g : GroupId) (legal : s.hearingLegal) : (faultGroup g s).hearingLegal := by
  rw [faultGroup_eq]
  refine hearingLegal_looks (raiseDevice_changes _ _) (by simp)
    (hearingLegal_congr (s := s) (fun p => ?_) rfl rfl (fun _ => rfl) legal)
  unfold State.activePoint
  dsimp only
  rw [MapStore.setActiveBank_activeBank, Bank.setGroup_points]

/-- A matched point is in hearing: its entry is valid and unmarked, and keyed to a lane that listens. -/
theorem heard_of_found {key : Key} {p : PointId} (index : s.indexLegal) (listens : s.listening key.lane = true)
    (found : lookup key s = (s, some (p, (s.activePoint p).entry))) : s.pointHeard p = true := by
  obtain ⟨member, mark, -⟩ := lookup_found found
  rw [index.1] at member
  obtain ⟨valid, -, keyed⟩ := (mem_indexOf _ _ _).mp member
  refine (pointHeard_iff s p).mpr ⟨valid, mark, ?_⟩
  have lane : key.lane = (s.activePoint p).entry.lane := congrArg Key.lane keyed
  exact lane ▸ listens

/-- The law while the samples of a frame of lane `l` are processed: the lane listens. -/
def HeardFrom (l : LaneId) (s : State) : Prop := s.indexLegal ∧ s.hearingLegal ∧ s.listening l = true

theorem heardFrom_looks (l : LaneId) : LooksOnlyAt [.map, .records, .lanes, .pairs, .mgmt] (HeardFrom l) := by
  intro bs s t changed apart legal
  obtain ⟨index, hearing, listens⟩ := legal
  refine ⟨indexLegal_looks changed (fun b member => apart b (by simp at member ⊢; tauto)) index,
    hearingLegal_looks changed (fun b member => apart b (by simp at member ⊢; tauto)) hearing, ?_⟩
  rw [listening_congr (s := s)]
  · exact listens
  · rw [changed.lanes (apart _ (by simp))]
  · rw [changed.pairs (apart _ (by simp))]

theorem heardFrom_keptBySamples (l : LaneId) : KeptBySamples l (HeardFrom l) where
  raise slot c s := heardFrom_looks l (raiseInto_changes s slot c) (by simp)
  offer m s := heardFrom_looks l (offerData_changes s m) (by simp)
  faultPoint p s legal := by
    obtain ⟨index, hearing, listens⟩ := legal
    have changed := faultPoint_changes s p
    refine ⟨faultPoint_indexLegal p index, faultPoint_hearingLegal p hearing, ?_⟩
    rw [listening_congr (s := s)]
    · exact listens
    · rw [changed.lanes (by simp)]
    · rw [changed.pairs (by simp)]
  faultGroup g s legal := by
    obtain ⟨index, hearing, listens⟩ := legal
    have changed := faultGroup_changes s g
    refine ⟨faultGroup_indexLegal g index, faultGroup_hearingLegal g hearing, ?_⟩
    rw [listening_congr (s := s)]
    · exact listens
    · rw [changed.lanes (by simp)]
    · rw [changed.pairs (by simp)]
  count s legal := by
    obtain ⟨index, hearing, listens⟩ := legal
    refine ⟨index, setLane_hearingLegal rfl (fun deaf => hearing.2.1 l deaf) hearing, ?_⟩
    rw [listening_congr (s := s)]
    · exact listens
    · rw [State.setLane_lanes, rowSet_self]
      rfl
    · rfl
  place _ _ _ _ legal := legal
  remember p s r condition _ timer legal := by
    obtain ⟨index, hearing, listens⟩ := legal
    refine ⟨index, setRecord_hearingLegal (fun unheard => ?_) hearing, listens⟩
    obtain ⟨unknown, stopped⟩ := hearing.1 p unheard
    exact ⟨condition.trans unknown, timer.trans stopped⟩
  judge key p s arrival x r lane found _ _ _ legal := by
    obtain ⟨index, hearing, listens⟩ := legal
    have heard := heard_of_found index (lane ▸ listens) found
    exact ⟨index, setRecord_hearingLegal (fun unheard => by rw [heard] at unheard; cases unheard) hearing, listens⟩

theorem frameTakenEvent_hearingLegal (index : s.indexLegal) (legal : s.hearingLegal) :
    (frameTakenEvent s).hearingLegal := by
  rcases frameTakenEvent_cases s with e | ⟨l, f, rest, waits, e⟩
  · rw [e]
    exact legal
  have listens : s.listening l = true := listening_of_busy legal fun quiet => by
    rw [quiet.1] at waits
    cases waits
  have removed : State.hearingLegal (s.setLane l { s.lanes[l] with fifo := rest }) :=
    setLane_hearingLegal rfl (fun deaf => by rw [listens] at deaf; cases deaf) legal
  have begun : HeardFrom l { s.setLane l { s.lanes[l] with fifo := rest } with servicePointer := l } := by
    refine ⟨index, removed, ?_⟩
    rw [listening_congr (s := s)]
    · exact listens
    · show (rowSet s.lanes l _)[l].enabled = _
      rw [rowSet_self]
      rfl
    · rfl
  rw [e]
  exact ((heardFrom_keptBySamples l).processSamples begun f 0 f.readings).2.1

theorem staleExpiryEvent_hearingLegal (p : PointId) (legal : s.hearingLegal) :
    (staleExpiryEvent p s).hearingLegal := by
  unfold staleExpiryEvent
  dsimp only
  split
  · next due =>
    have heard := heard_of_timer legal due
    have stale (r : RuntimeRecord) : (s.setRecord p r).hearingLegal :=
      setRecord_hearingLegal (fun unheard => by rw [heard] at unheard; cases unheard) legal
    split
    · exact hearingLegal_looks (raiseInto_changes _ _ _) (by simp) (stale _)
    · exact stale _
  · exact legal

theorem assembleReport_hearingLegal (g : GroupId) (origin : Origin) (legal : s.hearingLegal) :
    (assembleReport g origin s).hearingLegal := by
  unfold assembleReport
  dsimp only
  split
  · exact legal
  split
  · exact faultGroup_hearingLegal g legal
  split
  · exact legal
  · exact hearingLegal_looks (offerData_changes s _) (by simp) legal

theorem periodTimerExpiryEvent_hearingLegal (g : GroupId) (legal : s.hearingLegal) :
    (periodTimerExpiryEvent g s).hearingLegal := by
  have timed (timer : Option Timer) : (s.setPeriodTimer g timer).hearingLegal :=
    hearingLegal_looks (bs := [.periodTimers]) (by constructor <;> simp) (by simp) legal
  unfold periodTimerExpiryEvent
  split
  · exact assembleReport_hearingLegal g .periodic (timed _)
  · exact legal

/-! ## The lanes' own events -/

theorem frameEndEvent_hearingLegal (l : LaneId) (cause : FrameEndCause) (chars : List Byte) (legal : s.hearingLegal) :
    (frameEndEvent l cause chars s).hearingLegal := by
  unfold frameEndEvent
  dsimp only
  split
  · exact legal
  next held inProgress =>
  have listens : s.listening l = true := listening_of_busy legal fun quiet => by
    rw [quiet.2.1] at inProgress
    cases inProgress
  have ended (x : Lane) (enabled : x.enabled = true) : (s.setLane l x).hearingLegal :=
    setLane_hearingLegal (enabled.trans (enabled_of_listening listens).symm)
      (fun deaf => by rw [listens] at deaf; cases deaf) legal
  split
  · exact legal
  split
  · next suspended =>
    refine ended _ ?_
    unfold Lane.drop
    dsimp only
    split
    · rfl
    · exact (Lane.enabled_iff _).mpr (by rw [suspended]; decide)
  · split
    · refine ended _ ?_
      unfold Lane.accept
      split <;> rfl
    · have failed (v : FrameVerdict) : (s.lanes[l].error s.deviceTime v).enabled = true := by
        unfold Lane.error
        dsimp only
        split <;> rfl
      split
      · exact hearingLegal_looks (raiseDevice_changes _ _) (by simp) (ended _ (failed _))
      · exact ended _ (failed _)
  · exact legal
  · exact legal

theorem holdoffExpiryEvent_hearingLegal (l : LaneId) (legal : s.hearingLegal) :
    (holdoffExpiryEvent l s).hearingLegal := by
  unfold holdoffExpiryEvent
  split
  · next due =>
    have listens : s.listening l = true := listening_of_busy legal fun quiet => by
      rw [quiet.2.2] at due
      cases due
    refine setLane_hearingLegal ?_ (fun deaf => by rw [listens] at deaf; cases deaf) legal
    unfold Lane.holdoffEnd
    split
    · exact (enabled_of_listening listens).symm
    · rfl
  · exact legal

theorem Lane.begin_enabled (x : Lane) : x.begin.enabled = x.enabled := by
  unfold Lane.begin
  split
  · next hunt => rw [Lane.enabled, Lane.enabled, hunt]; rfl
  · split <;> rfl
  · rfl
  · rfl

theorem laneFrameBeginEvent_hearingLegal (l : LaneId) (legal : s.hearingLegal) :
    (laneFrameBeginEvent l s).hearingLegal := by
  unfold laneFrameBeginEvent
  split
  · exact legal
  · next receives =>
    refine setLane_hearingLegal (Lane.begin_enabled _) (fun deaf => ?_) legal
    have disabled : s.lanes[l].state = .disabled := by
      by_contra working
      rw [State.listening, Bool.eq_false_iff.mpr receives, (Lane.enabled_iff _).mpr working] at deaf
      cases deaf
    have same : s.lanes[l].begin = s.lanes[l] := by
      unfold Lane.begin
      rw [disabled]
    rw [same]
    exact legal.2.1 l deaf

/-! ## Enables, disables and modes (R28, R29, R125) -/

/-- An enable or a disable of a lane reaches both lanes of a JOINED pair or neither (R124). -/
theorem reaches_pair (l : LaneId) {k : PairId} (joined : s.pairs[k].mode = .joined) :
    s.reaches l (evenLane k) = s.reaches l (oddLane k) := by
  rw [Bool.eq_iff_iff, reaches_iff, reaches_iff, pairOf_evenLane, pairOf_oddLane]
  refine or_congr Iff.rfl (and_congr_right fun split => ?_)
  have apart : pairOf l ≠ k := by
    rintro rfl
    rw [State.joined, joined] at split
    cases split
  exact iff_of_false (fun e => apart (e ▸ pairOf_evenLane k)) (fun e => apart (e ▸ pairOf_oddLane k))

theorem disposeRelay_hearingLegal (k : PairId) (legal : s.hearingLegal) : (disposeRelay k s).hearingLegal := by
  rw [disposeRelay_eq]
  refine hearingLegal_congr (s := s) (fun _ => rfl) rfl rfl (fun j => ?_) legal
  dsimp only
  rw [rowSet_apply]
  split
  · next e => rw [e]
  · rfl

theorem disableLane_hearingLegal (l : LaneId) (legal : s.hearingLegal) : (disableLane l s).hearingLegal := by
  obtain ⟨silent, quiet, paired⟩ := legal
  obtain ⟨lanes, records, closed, rfl, e, eachLane, eachRecord⟩ := disableLane_eq s l
  have untouched {i : LaneId} (apart : ¬s.reaches l i = true) :
      State.listening { s with lanes := lanes, records := records } i = s.listening i :=
    listening_congr (by show lanes[i].enabled = _; rw [eachLane i, if_neg apart]) rfl
  have shut : State.hearingLegal { s with lanes := lanes, records := records } := by
    refine ⟨fun p unheard => ?_, fun i deaf => ?_, fun k joined => ?_⟩
    · show records[p].Unheard
      rw [eachRecord p]
      split
      · exact ⟨rfl, rfl⟩
      · next apart =>
        refine silent p ?_
        by_contra heard
        obtain ⟨valid, -, -⟩ := (pointHeard_iff s p).mp (Bool.not_eq_false _ ▸ heard)
        refine heard (unheard ▸ (pointHeard_congr ?_ (untouched fun reach => apart ⟨valid, reach⟩)).symm)
        rfl
    · show lanes[i].Quiet
      rw [eachLane i]
      split
      · exact ⟨rfl, rfl, rfl⟩
      · next apart => exact quiet i (untouched apart ▸ deaf)
    · show lanes[evenLane k].enabled = lanes[oddLane k].enabled
      rw [eachLane, eachLane, reaches_pair (s := s) l joined]
      split
      · rfl
      · exact paired k joined
  rw [e]
  split
  · exact disposeRelay_hearingLegal _ shut
  · exact shut

theorem enableLane_hearingLegal (l : LaneId) (legal : s.hearingLegal) : (enableLane l s).hearingLegal := by
  obtain ⟨silent, quiet, paired⟩ := legal
  obtain ⟨lanes, records, e, eachLane, eachRecord⟩ := enableLane_eq s l
  rw [e]
  obtain ⟨pairs, hp⟩ : ∃ pairs, pairs = (if s.joined l = true then
      rowSet s.pairs (pairOf l) ⟨s.pairs[pairOf l].mode, RelayTransmitter.reset⟩ else s.pairs) := ⟨_, rfl⟩
  have modes (k : PairId) : pairs[k].mode = s.pairs[k].mode := by
    rw [hp]
    split
    · rw [rowSet_apply]
      split
      · next e => rw [e]
      · rfl
    · rfl
  rw [← hp]
  obtain ⟨u, hu⟩ : ∃ u : State, u = { s with lanes := lanes, records := records, pairs := pairs } := ⟨_, rfl⟩
  have untouched {i : LaneId} (apart : ¬s.reaches l i = true) : u.listening i = s.listening i := by
    subst hu
    exact listening_congr (by show lanes[i].enabled = _; rw [eachLane i, if_neg apart]) (modes _)
  have opened {i : LaneId} (reach : s.reaches l i = true) : u.listening i = !s.transmitting i := by
    have enabled : lanes[i].enabled = true := by rw [eachLane i, if_pos reach]; rfl
    subst hu
    simp only [State.listening, State.transmitting, State.joined, enabled, modes, Bool.true_and]
  have more {i : LaneId} (listens : s.listening i = true) : u.listening i = true := by
    by_cases reach : s.reaches l i = true
    · rw [opened reach]
      exact (Bool.and_eq_true_iff.mp listens).2
    · rw [untouched reach, listens]
  have heard_more {p : PointId} (heard : s.pointHeard p = true) : u.pointHeard p = true := by
    obtain ⟨valid, mark, listens⟩ := (pointHeard_iff s p).mp heard
    have point : u.activePoint p = s.activePoint p := by rw [hu]; rfl
    exact (pointHeard_iff u p).mpr ⟨point ▸ valid, point ▸ mark, point ▸ more listens⟩
  show State.hearingLegal { s with lanes := lanes, records := records, pairs := pairs }
  rw [← hu]
  refine ⟨fun p unheard => ?_, fun i deaf => ?_, fun k joined => ?_⟩
  · have before : s.pointHeard p = false := by
      by_contra heard
      rw [heard_more (Bool.not_eq_false _ ▸ heard)] at unheard
      cases unheard
    have started : u.records[p] = records[p] := by rw [hu]
    rw [started, eachRecord p]
    split
    · next starts =>
      obtain ⟨usable, -, reach, receives, -⟩ := starts
      have point : u.activePoint p = s.activePoint p := by rw [hu]; rfl
      rw [State.pointHeard, point, usable, opened reach, receives] at unheard
      cases unheard
    · exact silent p before
  · have row : u.lanes[i] = lanes[i] := by rw [hu]
    rw [row, eachLane i]
    split
    · exact ⟨rfl, rfl, rfl⟩
    · next apart => exact quiet i (untouched apart ▸ deaf)
  · have was : s.pairs[k].mode = .joined := by
      rw [← modes k]
      rw [hu] at joined
      exact joined
    rw [show u.lanes = lanes by rw [hu], eachLane, eachLane, reaches_pair l was]
    split
    · rfl
    · exact paired k was

theorem applySetLane_hearingLegal (l : LaneId) (on : Bool) (settings : LaneSettings) (legal : s.hearingLegal) :
    (applySetLane l on settings s).hearingLegal := by
  have written : (s.setLane l { s.lanes[l] with settings := settings }).hearingLegal :=
    setLane_hearingLegal rfl (fun deaf => legal.2.1 l deaf) legal
  unfold applySetLane
  dsimp only
  split
  · split
    · exact legal
    · exact disableLane_hearingLegal l legal
  · split
    · exact enableLane_hearingLegal l written
    · exact written

/-- The mode of a pair whose lanes are both disabled can change: neither lane listens before or after (R125). -/
theorem setMode_hearingLegal {k : PairId} (mode : PairMode) (disabled : firstEnabled k s = none)
    (legal : s.hearingLegal) : (s.setPair k { s.pairs[k] with mode := mode }).hearingLegal := by
  obtain ⟨silent, quiet, paired⟩ := legal
  have off : s.lanes[evenLane k].enabled = false ∧ s.lanes[oddLane k].enabled = false := by
    simpa [firstEnabled, List.find?_eq_none] using disabled
  have listens (i : LaneId) : (s.setPair k { s.pairs[k] with mode := mode }).listening i = s.listening i := by
    by_cases here : pairOf i = k
    · have dark : s.lanes[i].enabled = false := by
        rcases (pairOf_eq_iff i k).mp here with e | e
        · exact e ▸ off.1
        · exact e ▸ off.2
      simp only [State.listening, State.setPair_lanes, dark, Bool.false_and]
    · refine listening_congr rfl ?_
      rw [State.setPair_pairs, rowSet_other _ _ here]
  have heard (p : PointId) : (s.setPair k { s.pairs[k] with mode := mode }).pointHeard p = s.pointHeard p :=
    pointHeard_congr rfl (listens _)
  refine ⟨fun p unheard => silent p (heard p ▸ unheard),
    fun i deaf => quiet i (listens i ▸ deaf), fun j joined => ?_⟩
  by_cases here : j = k
  · rw [here]
    exact off.1.trans off.2.symm
  · refine paired j ?_
    rw [State.setPair_pairs, rowSet_other _ _ here] at joined
    exact joined

/-! ## The completion of a COMMIT and the warm restart -/

/-- A stale timer starts for a point in hearing alone (R27). -/
theorem staleStart_unheard {e : Stored PointEntry} (c : Condition)
    (unheard : (pointUsable e && s.listening e.entry.lane) = false) : staleStart s e c = none := by
  unfold staleStart
  rw [if_neg]
  rintro ⟨usable, -, listens, -⟩
  rw [usable, listens] at unheard
  cases unheard

theorem reconcileRecord_unheard {p : PointId} (legal : s.hearingLegal)
    (unheard : (pointUsable s.map.shadowBank.points[p] &&
      s.listening s.map.shadowBank.points[p].entry.lane) = false) :
    (reconcileRecord s p s.records[p]).Unheard := by
  unfold reconcileRecord
  dsimp only
  split
  · next retained =>
    simp only [State.retainsPoint, retains, Bool.and_eq_true, beq_iff_eq] at retained
    obtain ⟨⟨⟨⟨⟨⟨-, usable⟩, key⟩, -⟩, -⟩, -⟩, -⟩ := retained
    have lane : s.map.activeBank.points[p].entry.lane = s.map.shadowBank.points[p].entry.lane :=
      congrArg Key.lane key
    rw [usable, Bool.true_and, ← lane] at unheard
    have before : s.pointHeard p = false := Bool.and_eq_false_iff.mpr (.inr unheard)
    obtain ⟨unknown, stopped⟩ := legal.1 p before
    split
    · exact ⟨unknown, rfl⟩
    · exact ⟨unknown, stopped⟩
  · exact ⟨rfl, staleStart_unheard _ unheard⟩

theorem commitCompletionEvent_hearingLegal (legal : s.hearingLegal) : (commitCompletionEvent s).hearingLegal := by
  unfold commitCompletionEvent
  dsimp only
  split
  · obtain ⟨-, quiet, paired⟩ := id legal
    refine hearingLegal_looks (endLongOp_changes _ _ _) (by simp) ⟨fun p unheard => ?_, quiet, paired⟩
    show (rowsMap (reconcileRecord s) s.records)[p].Unheard
    rw [rowsMap_apply]
    refine reconcileRecord_unheard legal ?_
    unfold State.pointHeard State.activePoint at unheard
    dsimp only at unheard
    simp only [MapStore.exchange_activeBank] at unheard
    exact unheard
  · exact legal

theorem warmRestart_hearingLegal (legal : s.hearingLegal) : (warmRestart s).hearingLegal := by
  obtain ⟨-, -, paired⟩ := legal
  obtain ⟨slots, records, e, -, eachRecord⟩ := warmRestart_eq s
  have lane (l : LaneId) : (warmRestart s).lanes[l] = s.lanes[l].warmRestart := by
    rw [e]
    exact rowsMap_apply _ s.lanes l
  have mode (k : PairId) : (warmRestart s).pairs[k].mode = s.pairs[k].mode := by
    rw [e]
    dsimp only
    rw [rowsMap_apply]
  have listens (l : LaneId) : (warmRestart s).listening l = s.listening l :=
    listening_congr (by rw [lane, Lane.warmRestart_enabled]) (mode _)
  have point (p : PointId) : (warmRestart s).activePoint p = s.activePoint p := by
    rw [e]
    rfl
  refine ⟨fun p unheard => ?_, fun l _ => ?_, fun k joined => ?_⟩
  · have record : (warmRestart s).records[p] = records[p] := by rw [e]
    rw [pointHeard_congr (point p) (listens _)] at unheard
    rw [record, eachRecord p, if_neg]
    · exact ⟨rfl, rfl⟩
    · rintro ⟨usable, -, listens⟩
      rw [State.pointHeard, usable, listens] at unheard
      cases unheard
  · rw [lane l]
    exact ⟨rfl, rfl, rfl⟩
  · rw [lane, lane, Lane.warmRestart_enabled, Lane.warmRestart_enabled]
    exact paired k (mode k ▸ joined)

/-! ## Every event -/

theorem copyActiveEntryEvent_hearingLegal (legal : s.hearingLegal) : (copyActiveEntryEvent s).hearingLegal := by
  have copied (b : Bank) : (advance (s.setMap (s.map.setShadowBank b))).hearingLegal :=
    hearingLegal_looks (advance_changes _) (by simp) (setShadowBank_hearingLegal b legal)
  unfold copyActiveEntryEvent
  dsimp only
  split
  · split
    · exact copied _
    · exact hearingLegal_looks (endLongOp_changes _ _ _) (by simp) (copied _)
  · exact legal

theorem setPartialIndex_hearingLegal (index : List KeyRow) (legal : s.hearingLegal) :
    (setPartialIndex index s).hearingLegal := legal

theorem checkPassEntryEvent_hearingLegal (legal : s.hearingLegal) : (checkPassEntryEvent s).hearingLegal := by
  unfold checkPassEntryEvent
  dsimp only
  split
  · split
    · exact hearingLegal_looks (endLongOp_changes _ _ _) (by simp) (setPartialIndex_hearingLegal [] legal)
    · next index _ =>
      have passed : (advance (setPartialIndex index s)).hearingLegal :=
        hearingLegal_looks (advance_changes _) (by simp) (setPartialIndex_hearingLegal index legal)
      split
      · exact passed
      · exact passed
  · exact legal

theorem teardown_hearingLegal (legal : s.hearingLegal) : (teardown s).hearingLegal := by
  refine hearingLegal_congr (s := s) (fun _ => rfl) rfl rfl (fun k => ?_) legal
  show Pair.mode (rowsMap _ s.pairs)[k] = _
  rw [rowsMap_apply]

theorem operationEvent_hearingLegal (o : Operation) (legal : s.hearingLegal) : (operationEvent o s).hearingLegal := by
  have blind : BlindToTakes State.hearingLegal := .of_looksOnlyAt hearingLegal_looks (by simp)
  refine blind.operationEvent (fun tag operands u legal => ?_) legal
  cases o
  case writePoint =>
    rcases writePointOwn_state u tag operands with e | ⟨p, entry, -, e⟩
    · exact e.symm ▸ legal
    · exact e.symm ▸ setShadowBank_hearingLegal _ legal
  case writeGroup =>
    rcases writeGroupOwn_state u tag operands with e | ⟨g, entry, -, e⟩
    · exact e.symm ▸ legal
    · exact e.symm ▸ setShadowBank_hearingLegal _ legal
  case clearShadow => exact setShadowBank_hearingLegal _ legal
  case commit =>
    rcases commitOwn_state u tag operands with e | e
    · exact e.symm ▸ legal
    · exact e.symm ▸ setPartialIndex_hearingLegal [] legal
  case readCondition =>
    rcases readConditionOwn_state u tag operands with e | ⟨p, e⟩
    · exact e.symm ▸ legal
    · exact e.symm ▸ setRecord_hearingLegal (fun unheard => legal.1 p unheard) legal
  case setLane =>
    rcases setLaneOwn_state u tag operands with e | ⟨l, on, settings, e⟩
    · exact e.symm ▸ legal
    · exact e.symm ▸ applySetLane_hearingLegal l on settings legal
  case clearLaneCounters =>
    rcases clearLaneCountersOwn_state u tag operands with e | ⟨l, e⟩
    · exact e.symm ▸ legal
    · exact e.symm ▸ setLane_hearingLegal (s := u) (l := l) rfl (fun deaf => legal.2.1 l deaf) legal
  case setPair =>
    rcases setPairOwn_state u tag operands with e | ⟨k, mode, disabled, e⟩
    · exact e.symm ▸ legal
    · exact e.symm ▸ setMode_hearingLegal mode disabled legal
  case relay =>
    rcases relayOwn_state u tag operands with e | ⟨l, confirm, -, e⟩
    · exact e.symm ▸ legal
    · exact e.symm ▸ setPair_hearingLegal (s := u) (k := pairOf l) rfl legal
  case triggerGroup =>
    rcases triggerGroupOwn_state u tag operands with e | ⟨g, e | ⟨-, e⟩⟩
    · exact e.symm ▸ legal
    · exact e.symm ▸ faultGroup_hearingLegal g legal
    · exact e.symm ▸ legal
  all_goals exact hearingLegal_looks (own_changes u _ tag operands) (by simp [operationBlocks]) legal

theorem relayEvents_hearingLegal (k : PairId) (legal : s.hearingLegal) :
    (relayTransmissionStartEvent k s).hearingLegal ∧ (relayTransmissionCompletionEvent k s).hearingLegal ∧
      (gapEndEvent k s).hearingLegal := by
  have rewritten (relay : RelayTransmitter) : (s.setPair k { s.pairs[k] with relay := relay }).hearingLegal :=
    setPair_hearingLegal rfl legal
  refine ⟨?_, ?_, ?_⟩
  · unfold relayTransmissionStartEvent
    dsimp only
    split
    · exact rewritten _
    · exact legal
  · unfold relayTransmissionCompletionEvent
    dsimp only
    split
    · exact hearingLegal_looks (relayOutcome_changes _ _ _ _) (by simp) (rewritten _)
    · exact legal
  · unfold gapEndEvent
    dsimp only
    split
    · exact rewritten _
    · exact legal
    · exact legal

theorem commandEvent_hearingLegal (i : Instr) (s : State) (index : s.indexLegal) (legal : s.hearingLegal) :
    (commandEvent i s).hearingLegal := by
  have completion : KeptByCompletion State.hearingLegal :=
    .of_looksOnlyAt hearingLegal_looks (by simp) fun _ => warmRestart_hearingLegal
  have trunk : KeptByTrunk State.hearingLegal :=
    .of_looksOnlyAt hearingLegal_looks (by simp) fun _ => teardown_hearingLegal
  have blind : BlindToTakes State.hearingLegal := .of_looksOnlyAt hearingLegal_looks (by simp)
  cases i
  case coldReset => exact legal
  case resetRelease => exact legal
  case frameEnd l cause chars => exact frameEndEvent_hearingLegal l cause chars legal
  case holdoffExpiry l => exact holdoffExpiryEvent_hearingLegal l legal
  case laneFrameBegin l => exact laneFrameBeginEvent_hearingLegal l legal
  case frameTaken => exact frameTakenEvent_hearingLegal index legal
  case staleExpiry p => exact staleExpiryEvent_hearingLegal p legal
  case periodTimerExpiry g => exact periodTimerExpiryEvent_hearingLegal g legal
  case copyActiveEntry => exact copyActiveEntryEvent_hearingLegal legal
  case checkPassEntry => exact checkPassEntryEvent_hearingLegal legal
  case commitCompletion => exact commitCompletionEvent_hearingLegal legal
  case transmissionCompletion => exact completion.transmissionCompletionEvent legal
  case messageEnd cause chars => exact trunk.messageEndEvent legal cause chars
  case attach payload => exact trunk.validMessageEvent legal .attach payload
  case request payload => exact trunk.validMessageEvent legal .request payload
  case keepalive payload => exact trunk.validMessageEvent legal .keepalive payload
  case silenceTimerExpiry => exact trunk.silenceTimerExpiryEvent legal
  case wakeTimerExpiry => exact trunk.wakeTimerExpiryEvent legal
  case relayTransmissionStart k => exact (relayEvents_hearingLegal k legal).1
  case relayTransmissionCompletion k => exact (relayEvents_hearingLegal k legal).2.1
  case gapEnd k => exact (relayEvents_hearingLegal k legal).2.2
  case badOp => exact blind.takeEvent (fun _ _ _ legal => legal) _ legal
  case capture | acknowledgementTimerExpiry | owedRepeatPlacement | transmissionStart | shortRequest |
      trunkMessageBegin =>
    exact hearingLegal_looks (commandEvent_changes s _) (by simp [commandBlocks]) legal
  all_goals exact operationEvent_hearingLegal _ legal

theorem atColdReset_hearingLegal (cause : RestartCause) (hold : Bool) (straps : Fin 8) (queue : List Instr)
    (number : Nat) : (State.atColdReset cause hold straps queue number).hearingLegal := by
  have lanes (l : LaneId) : (Vector.replicate 8 Lane.coldReset)[l] = Lane.coldReset := Vector.getElem_replicate _
  have records (p : PointId) : (Vector.replicate 256 RuntimeRecord.cleared)[p] = RuntimeRecord.cleared :=
    Vector.getElem_replicate _
  refine ⟨fun p _ => ?_, fun l _ => ?_, fun k _ => ?_⟩
  · show (Vector.replicate 256 RuntimeRecord.cleared)[p].Unheard
    rw [records]
    exact ⟨rfl, rfl⟩
  · show (Vector.replicate 8 Lane.coldReset)[l].Quiet
    rw [lanes]
    exact ⟨rfl, rfl, rfl⟩
  · show (Vector.replicate 8 Lane.coldReset)[evenLane k].enabled = (Vector.replicate 8 Lane.coldReset)[oddLane k].enabled
    rw [lanes, lanes]

/-- Settles O59: the exact index by P10 and the unheard points by the law above, case by case over the events. -/
theorem everyStepKeepsUnheardPointsUnknown : Obligations.EveryStepKeepsUnheardPointsUnknown := by
  have looks : LooksOnlyAt [.map, .records, .lanes, .pairs, .mgmt]
      (fun s : State => s.indexLegal ∧ s.hearingLegal) := by
    intro bs s t changed apart legal
    obtain ⟨index, hearing⟩ := legal
    exact ⟨indexLegal_looks changed (fun b member => apart b (by simp at member ⊢; tauto)) index,
      hearingLegal_looks changed (fun b member => apart b (by simp at member ⊢; tauto)) hearing⟩
  refine kept_of_events looks (by simp) (fun cause hold straps queue number => ?_) (fun i s legal => ?_)
  · exact ⟨atColdReset_indexLegal .., atColdReset_hearingLegal ..⟩
  · obtain ⟨index, hearing⟩ := legal
    exact ⟨commandEvent_indexLegal i s index, commandEvent_hearingLegal i s index hearing⟩

end Sys2Proof.Machine
end

section
/-! PROOF. Steps (O1, O2), the cold reset and its release (O4, O5), the state after reset (O60), and the start
delimiter of a frame (O7). -/

namespace Sys2Proof.Machine

-- One proof after the other: many at once ask for too many threads.
set_option Elab.async false

variable {s : State}

/-- Settles O1: by the definition of a step. -/
theorem stepRunsFrontCommand : Obligations.StepRunsFrontCommand := by
  intro c rest s waits
  simp only [step, waits]

/-! ## The expiry that happens next -/

section due

variable {α : Type} {n : Nat} (now : Time) (timerOf : α → Option Timer) (v : Vector α n)

theorem firstDue_some {i : Fin n} (found : firstDue now timerOf v = some i) : timerDue now (timerOf v[i]) = true := by
  obtain ⟨row, first, rfl⟩ := Option.map_eq_some_iff.mp found
  have here : v[row.1] = row.2 := (mem_rows _ _ _).mp (List.mem_of_find?_eq_some first)
  have holds := List.find?_some first
  rw [here]
  exact holds

theorem firstDue_none : firstDue now timerOf v = none ↔ ∀ i : Fin n, timerDue now (timerOf v[i]) = false := by
  rw [firstDue, Option.map_eq_none_iff, List.find?_eq_none]
  constructor
  · intro none i
    exact Bool.eq_false_iff.mpr (none (i, v[i]) ((mem_rows _ _ _).mpr rfl))
  · rintro none ⟨i, x⟩ row
    have here : v[i] = x := (mem_rows _ _ _).mp row
    rw [← here]
    exact Bool.eq_false_iff.mp (none i)

end due

theorem dueAcknowledgement_some {c : Instr} (found : dueAcknowledgement s = some c) :
    ∃ r ∈ s.stack, c = .acknowledgementTimerExpiry r.number ∧ r.state = .awaiting ∧
      timerDue s.deviceTime r.timer = true := by
  obtain ⟨r, first, rfl⟩ := Option.map_eq_some_iff.mp found
  have awaits := List.find?_some first
  rw [Bool.and_eq_true, beq_iff_eq] at awaits
  exact ⟨r, List.mem_of_find?_eq_some first, rfl, awaits⟩

theorem dueAcknowledgement_none (s : State) : dueAcknowledgement s = none ↔
    ∀ r ∈ s.stack, r.state = .awaiting → timerDue s.deviceTime r.timer = false := by
  rw [dueAcknowledgement, Option.map_eq_none_iff, List.find?_eq_none]
  simp only [Bool.and_eq_true, beq_iff_eq, not_and, Bool.not_eq_true]

theorem dueSilence_some {c : Instr} (found : dueSilence s = some c) :
    c = .silenceTimerExpiry ∧ timerDue s.deviceTime s.link.silenceTimer = true := by
  obtain ⟨due, e⟩ := Option.ite_none_right_eq_some.mp found
  cases e
  exact ⟨rfl, due⟩

theorem dueWake_some {c : Instr} (found : dueWake s = some c) :
    c = .wakeTimerExpiry ∧ timerDue s.deviceTime s.link.wakeTimer = true := by
  obtain ⟨due, e⟩ := Option.ite_none_right_eq_some.mp found
  cases e
  exact ⟨rfl, due⟩

theorem dueExpiry_some {c : Instr} (found : dueExpiry s = some c) :
    (∃ p : PointId, c = .staleExpiry p ∧ timerDue s.deviceTime s.records[p].timer = true) ∨
    (∃ g : GroupId, c = .periodTimerExpiry g ∧ timerDue s.deviceTime s.periodTimers[g] = true) ∨
    (∃ l : LaneId, c = .holdoffExpiry l ∧ timerDue s.deviceTime s.lanes[l].holdoffTimer = true) ∨
    (∃ r ∈ s.stack, c = .acknowledgementTimerExpiry r.number ∧ r.state = .awaiting ∧
      timerDue s.deviceTime r.timer = true) ∨
    (c = .silenceTimerExpiry ∧ timerDue s.deviceTime s.link.silenceTimer = true) ∨
    (c = .wakeTimerExpiry ∧ timerDue s.deviceTime s.link.wakeTimer = true) := by
  simp only [dueExpiry, Option.or_eq_some_iff] at found
  rcases found with stale | ⟨-, period | ⟨-, holdoff | ⟨-, ack | ⟨-, silence | ⟨-, wake⟩⟩⟩⟩⟩
  · obtain ⟨p, first, rfl⟩ := Option.map_eq_some_iff.mp stale
    exact .inl ⟨p, rfl, firstDue_some _ _ _ first⟩
  · obtain ⟨g, first, rfl⟩ := Option.map_eq_some_iff.mp period
    exact .inr (.inl ⟨g, rfl, firstDue_some _ _ _ first⟩)
  · obtain ⟨l, first, rfl⟩ := Option.map_eq_some_iff.mp holdoff
    exact .inr (.inr (.inl ⟨l, rfl, firstDue_some _ _ _ first⟩))
  · exact .inr (.inr (.inr (.inl (dueAcknowledgement_some ack))))
  · exact .inr (.inr (.inr (.inr (.inl (dueSilence_some silence)))))
  · exact .inr (.inr (.inr (.inr (.inr (dueWake_some wake)))))

theorem dueExpiry_none (s : State) : dueExpiry s = none ↔
    (∀ p : PointId, timerDue s.deviceTime s.records[p].timer = false) ∧
    (∀ g : GroupId, timerDue s.deviceTime s.periodTimers[g] = false) ∧
    (∀ l : LaneId, timerDue s.deviceTime s.lanes[l].holdoffTimer = false) ∧
    (∀ r ∈ s.stack, r.state = .awaiting → timerDue s.deviceTime r.timer = false) ∧
    timerDue s.deviceTime s.link.silenceTimer = false ∧
    timerDue s.deviceTime s.link.wakeTimer = false := by
  have silence : dueSilence s = none ↔ timerDue s.deviceTime s.link.silenceTimer = false := by simp [dueSilence]
  have wake : dueWake s = none ↔ timerDue s.deviceTime s.link.wakeTimer = false := by simp [dueWake]
  rw [dueExpiry, Option.or_eq_none_iff, Option.or_eq_none_iff, Option.or_eq_none_iff, Option.or_eq_none_iff,
    Option.or_eq_none_iff, dueStale, Option.map_eq_none_iff, firstDue_none, duePeriod, Option.map_eq_none_iff,
    firstDue_none, dueHoldoff, Option.map_eq_none_iff, firstDue_none, dueAcknowledgement_none, silence, wake]
  rfl

/-- Settles O2: along the order in which a step looks for a due timer. -/
theorem emptyQueueTakesDueExpiryOrCounts : Obligations.EmptyQueueTakesDueExpiryOrCounts := by
  intro s empty
  refine ⟨fun held => ?_, fun running c due => ?_, fun c due => dueExpiry_some due, fun running idle => ?_,
    dueExpiry_none s⟩
  · simp only [step, empty, held, if_true]
  · simp only [step, empty, running, due, Bool.false_eq_true, if_false]
  · refine ⟨nextMillisecond s, ?_, rfl, fun c => stillCut_some _ _ c, fun k c => ?_⟩
    · simp only [step, empty, running, idle, Bool.false_eq_true, if_false]
    · show (rowsMap (fun _ c => stillCut (s.deviceTime + 1) c) s.cuts.relays)[k] = some c ↔ _
      rw [rowsMap_apply]
      exact stillCut_some _ _ c

/-! ## Cold reset and its release (R19, R64, R204) -/

section coldReset

variable (cause : RestartCause) (hold : Bool) (straps : Fin 8) (queue : List Instr) (number : Nat)

theorem slotsColdReset_zero : slotsColdReset[(0 : SlotId)] = Slot.coldResetZero := rfl

theorem slotsColdReset_other {k : SlotId} (other : k ≠ 0) : slotsColdReset[k] = Slot.coldReset := by
  show (rowSet (Vector.replicate 32 Slot.coldReset) 0 Slot.coldResetZero)[k] = Slot.coldReset
  rw [rowSet_other _ _ other]
  exact Vector.getElem_replicate _

theorem atColdReset_lane (l : LaneId) : (State.atColdReset cause hold straps queue number).lanes[l] = Lane.coldReset :=
  Vector.getElem_replicate _

theorem atColdReset_pair (k : PairId) : (State.atColdReset cause hold straps queue number).pairs[k] = Pair.coldReset :=
  Vector.getElem_replicate _

theorem atColdReset_cut (k : PairId) : (State.atColdReset cause hold straps queue number).cuts.relays[k] = none :=
  Vector.getElem_replicate _

/-- Slot 0, unmasked and holding RESTARTED, asks for a capture (R64, R87). -/
theorem atColdReset_wakeDemand : (State.atColdReset cause hold straps queue number).wakeDemand = true := by
  refine (wakeDemand_iff _).mpr ⟨0, ?_⟩
  rw [State.selectable, show (State.atColdReset cause hold straps queue number).slots[(0 : SlotId)] =
    Slot.coldResetZero from slotsColdReset_zero]
  exact ⟨.inl (List.cons_ne_nil _ _), rfl, fun r member => absurd member List.not_mem_nil,
    show (0 : Nat) < 4 by decide⟩

theorem atColdReset_silent (k : PairId) :
    (State.atColdReset cause hold straps queue number).ltx k = [] ∧
      (State.atColdReset cause hold straps queue number).lde k = false := by
  unfold State.ltx State.lde
  rw [atColdReset_pair]
  exact ⟨rfl, rfl⟩

end coldReset

/-- Settles O4: each block is at its reset constant. -/
theorem coldResetSetsEveryBlock : Obligations.ColdResetSetsEveryBlock := by
  intro c s
  refine ⟨State.atColdReset (restartCauseOf c) true s.trunkRate s.pending s.cuts.number, rfl, rfl, rfl,
    ⟨rfl, rfl, rfl, fun name => ⟨fun p => ?_, fun g => ?_⟩, fun key => lookup_absent rfl, fun g => ?_⟩,
    ⟨fun p => Vector.getElem_replicate _, rfl, fun g => Vector.getElem_replicate _⟩,
    ⟨slotsColdReset_zero, fun k other => slotsColdReset_other other, fun d => Vector.getElem_replicate _⟩,
    ⟨rfl, rfl, atColdReset_wakeDemand ..⟩, ⟨fun l => ?_, fun k => atColdReset_pair ..⟩, ?_, rfl, rfl,
    rfl, rfl, fun k => ⟨atColdReset_cut .., atColdReset_silent ..⟩⟩
  · cases name <;> exact Bank.empty_points p
  · cases name <;> exact Bank.empty_groups g
  · exact congrArg (fun stored => stored.entry.trigger) (Bank.empty_groups g)
  · have lane := atColdReset_lane (restartCauseOf c) true s.trunkRate s.pending s.cuts.number l
    refine ⟨?_, ?_, ?_, ?_, ?_, ?_, ?_, ?_, ?_⟩
    case refine_9 =>
      rw [State.listening, lane]
      rfl
    all_goals
      rw [lane]
      rfl
  · cases c <;> rfl

/-- Settles O5: by the definition of the release. -/
theorem resetReleaseStartsTimeAndSamplesStraps : Obligations.ResetReleaseStartsTimeAndSamplesStraps := by
  refine ⟨fun straps s held => ?_, fun straps s running => ?_, rfl⟩
  · show execResetRelease straps s = _
    rw [execResetRelease, if_pos held]
    rfl
  · show execResetRelease straps s = _
    rw [execResetRelease, if_neg (by rw [running]; exact Bool.false_ne_true)]

theorem atColdReset_stackLegal (cause : RestartCause) (hold : Bool) (straps : Fin 8) (queue : List Instr)
    (number : Nat) : (State.atColdReset cause hold straps queue number).stackLegal :=
  stackLegal_iff.mpr List.Pairwise.nil

theorem atColdReset_alertsLegal (cause : RestartCause) (hold : Bool) (straps : Fin 8) (queue : List Instr)
    (number : Nat) : (State.atColdReset cause hold straps queue number).alertsLegal :=
  ⟨fun _ member => absurd member List.not_mem_nil, fun _ member => absurd member List.not_mem_nil, rfl⟩

/-- Settles O60: the reset state is a cold reset that was left, and every law holds after a cold reset. -/
theorem resetStateIsReleasedPowerOnAndMeetsEveryLaw : Obligations.ResetStateIsReleasedPowerOnAndMeetsEveryLaw := by
  refine ⟨⟨State.reset, _, rfl, rfl⟩, rfl, ?_⟩
  exact ⟨atColdReset_slotsLegal _ _ _ _ _, atColdReset_stackLegal .., atColdReset_lanesBalanced _ _ _ _ _,
    atColdReset_mapLegal ..,
    (session_iff _).mp (atColdReset_session ..), atColdReset_alertsLegal .., atColdReset_indexLegal ..,
    atColdReset_hearingLegal ..⟩

/-! ## The start delimiter of a frame (R126, R129, R139) -/

theorem exec_laneFrameBegin (l : LaneId) (running : s.inReset = false) :
    exec (.laneFrameBegin l) s = .next (laneFrameBeginEvent l s) := running_released s _ running

theorem laneFrameBegin_receives {l : LaneId} (receives : s.transmitting l = false) :
    laneFrameBeginEvent l s = s.setLane l s.lanes[l].begin := by
  rw [laneFrameBeginEvent, receives]
  rfl

theorem Lane.begin_hunt {x : Lane} (hunt : x.state = .hunt) :
    x.begin = { x with state := .receiving, frame := some [] } := by
  rw [Lane.begin, hunt]

theorem Lane.begin_suspended {x : Lane} (suspended : x.state = .suspended) (none : x.frame = none) :
    x.begin = { x with frame := some [] } := by
  rw [Lane.begin, suspended, none]
  rfl

theorem Lane.begin_suspended_busy {x : Lane} {chars : List Byte} (suspended : x.state = .suspended)
    (busy : x.frame = some chars) : x.begin = x := by
  rw [Lane.begin, suspended, busy]
  rfl

theorem Lane.begin_other {x : Lane} (other : x.state = .receiving ∨ x.state = .disabled) : x.begin = x := by
  rcases other with e | e
  · rw [Lane.begin, e]
  · rw [Lane.begin, e]

theorem setLane_self (l : LaneId) : s.setLane l s.lanes[l] = s := by
  rw [State.setLane, rowSet_eta]

/-- A delimiter that leaves the lane as it was leaves the state as it was. -/
theorem laneFrameBegin_unmoved {l : LaneId} (unmoved : s.lanes[l].begin = s.lanes[l]) : laneFrameBeginEvent l s = s := by
  unfold laneFrameBeginEvent
  split
  · rfl
  · rw [unmoved, setLane_self]

/-- Settles O7: by the lane states. -/
theorem startDelimiterBeginsFrame : Obligations.StartDelimiterBeginsFrame := by
  intro l s running
  rw [exec_laneFrameBegin l running]
  refine ⟨fun transmits => ?_, fun receives hunt => ?_, fun receives suspended none => ?_,
    fun chars suspended busy => ?_, fun other => ?_⟩
  · rw [laneFrameBeginEvent, if_pos transmits]
  · rw [laneFrameBegin_receives receives, Lane.begin_hunt hunt]
  · rw [laneFrameBegin_receives receives, Lane.begin_suspended suspended none]
  · rw [laneFrameBegin_unmoved (Lane.begin_suspended_busy suspended busy)]
  · rw [laneFrameBegin_unmoved (Lane.begin_other other)]

end Sys2Proof.Machine
end

section
/-! PROOF. Lane frames: what a node sends is read back (O8), the order of the judgement (O9), and the frame ends and
the holdoff expiry of a lane (O10, O11). -/

namespace Sys2Proof.Machine

-- One proof after the other: many at once ask for too many threads.
set_option Elab.async false

variable {s : State}

/-! ## Fields of a byte (R199, R200) -/

theorem append_toNat {m n : Nat} (x : BitVec m) (y : BitVec n) : (x ++ y).toNat = x.toNat * 2 ^ n + y.toNat := by
  rw [BitVec.toNat_append, ← Nat.shiftLeft_add_eq_or_of_lt y.isLt, Nat.shiftLeft_eq]

/-- The header character: the kind in its upper three bits, the node in the lower five. -/
def headerChar (kind : BitVec 3) (node : NodeAddr) : Byte := kind ++ BitVec.ofNat 5 node.val

theorem headerChar_toNat (kind : BitVec 3) (node : NodeAddr) :
    (headerChar kind node).toNat = kind.toNat * 32 + node.val := by
  rw [headerChar, append_toNat, BitVec.toNat_ofNat, Nat.mod_eq_of_lt node.isLt]
  rfl

/-- The second character: a two-bit field over the sequence. -/
def secondChar (top : BitVec 2) (q : Sequence) : Byte := top ++ q

theorem secondChar_count (top : BitVec 2) (q : Sequence) : (secondChar top q).toNat / 64 = top.toNat := by
  have := q.isLt
  rw [secondChar, append_toNat]
  omega

theorem secondChar_sequence (top : BitVec 2) (q : Sequence) : (secondChar top q).setWidth 6 = q := by
  have := q.isLt
  refine BitVec.eq_of_toNat_eq ?_
  rw [BitVec.toNat_setWidth, secondChar, append_toNat]
  omega

/-- The third character: four ignored bits over the start index. -/
def thirdChar (high : BitVec 4) (i : PointIndex) : Byte := high ++ BitVec.ofNat 4 i.val

theorem thirdChar_toNat (high : BitVec 4) (i : PointIndex) : (thirdChar high i).toNat = high.toNat * 16 + i.val := by
  rw [thirdChar, append_toNat, BitVec.toNat_ofNat, Nat.mod_eq_of_lt i.isLt]
  rfl

theorem readings_record (r : Reading) (other : BitVec 6) (rest : List Byte) :
    readings (nodeRecordChars r other ++ rest) = r :: readings rest := by
  have value : r.value.extractLsb' 8 8 ++ r.value.extractLsb' 0 8 = r.value := by
    refine BitVec.eq_of_toNat_eq ?_
    have := r.value.isLt
    rw [append_toNat, BitVec.extractLsb'_toNat, BitVec.extractLsb'_toNat, Nat.shiftRight_eq_div_pow,
      Nat.shiftRight_eq_div_pow]
    omega
  have fault : (other ++ BitVec.ofBool r.held ++ BitVec.ofBool r.fault).getLsbD 0 = r.fault := by
    rw [BitVec.getLsbD_append, BitVec.getLsbD_ofBool]
    exact Bool.true_and _
  have held : (other ++ BitVec.ofBool r.held ++ BitVec.ofBool r.fault).getLsbD 1 = r.held := by
    rw [BitVec.getLsbD_append, BitVec.getLsbD_append]
    show (BitVec.ofBool r.held).getLsbD 0 = r.held
    rw [BitVec.getLsbD_ofBool]
    exact Bool.true_and _
  show ({ value := _, fault := _, held := _ } : Reading) :: readings rest = _
  rw [value, fault, held]

theorem readings_records (rs : List (Reading × BitVec 6)) :
    readings (rs.flatMap fun x => nodeRecordChars x.1 x.2) = rs.map (fun x => x.1) := by
  induction rs with
  | nil => rfl
  | cons x rest ih => rw [List.flatMap_cons, readings_record, ih, List.map_cons]

theorem records_length (rs : List (Reading × BitVec 6)) :
    (rs.flatMap fun x => nodeRecordChars x.1 x.2).length = 3 * rs.length := by
  induction rs with
  | nil => rfl
  | cons x rest ih =>
    rw [List.flatMap_cons, List.length_append, ih, List.length_cons]
    show 3 + 3 * rest.length = _
    omega

/-- A frame sent with its own CRC is judged by its content alone. -/
theorem judgeFrame_sent (now : Time) (kind : BitVec 3) (node : NodeAddr) (top : BitVec 2) (q : Sequence)
    (high : BitVec 4) (i : PointIndex) (records : List Byte) (enough : 3 ≤ records.length) :
    judgeFrame now (nodeFrameChars kind node (secondChar top q) (thirdChar high i) records) =
      if frameContentOk (headerChar kind node) (secondChar top q) (thirdChar high i) (records.length + 5) then
        .good ⟨node, q, i, readings records, now⟩
      else .formatError := by
  have read : Fin.ofNat 32 (headerChar kind node).toNat = node := by
    refine Fin.ext ?_
    have := node.isLt
    rw [Fin.val_ofNat, headerChar_toNat]
    omega
  have start : Fin.ofNat 16 (thirdChar high i).toNat = i := by
    refine Fin.ext ?_
    have := i.isLt
    rw [Fin.val_ofNat, thirdChar_toNat]
    omega
  have judged := judgeFrame_split now (headerChar kind node) (secondChar top q) (thirdChar high i) records
    (codeField (crc16 (headerChar kind node :: secondChar top q :: thirdChar high i :: records))) rfl enough
  rw [if_neg (not_not.mpr rfl), read, secondChar_sequence, start] at judged
  exact judged

/-- The content tests in arithmetic (R128). -/
theorem frameContentOk_iff (header second third : Byte) (length : Nat) :
    frameContentOk header second third length = true ↔
      (header.toNat / 32 = 1 ∧ length = 8 ∨
        header.toNat / 32 = 2 ∧ 1 ≤ second.toNat / 64 ∧ third.toNat % 16 + second.toNat / 64 ≤ 15 ∧
          length = 5 + 3 * (second.toNat / 64 + 1)) ∧
      header.toNat % 32 ≤ 30 := by
  have := second.isLt
  unfold frameContentOk frameKind
  by_cases burst : header.toNat / 32 = 2
  · simp only [burst, beq_self_eq_true, Bool.or_true, Bool.true_and, Bool.not_true, Bool.false_or, Bool.and_eq_true,
      decide_eq_true_eq, if_true, beq_iff_eq, OfNat.ofNat_ne_one, false_and, false_or, true_and]
    omega
  · have sample : (header.toNat / 32 == 2) = false := beq_eq_false_iff_ne.mpr burst
    simp only [sample, Bool.or_false, Bool.not_false, Bool.true_or, Bool.and_true, Bool.and_eq_true,
      decide_eq_true_eq, beq_iff_eq, Bool.false_eq_true, if_false]
    omega

/-- Settles O8: the CRC is the frame's own, the content tests hold just when the node is not 31, and the fields are
read back. -/
theorem nodeFramesReadBack : Obligations.NodeFramesReadBack := by
  intro now node q i high
  have nodeRange := node.isLt
  have indexRange := i.isLt
  refine ⟨fun top r other => ?_, fun rs two four fits => ?_⟩
  · have judged := judgeFrame_sent now 1#3 node top q high i (nodeRecordChars r other) (by exact Nat.le_refl 3)
    have content : frameContentOk (headerChar 1#3 node) (secondChar top q) (thirdChar high i)
        ((nodeRecordChars r other).length + 5) = true ↔ node.val ≤ 30 := by
      rw [frameContentOk_iff, headerChar_toNat]
      show (_ ∧ 3 + 5 = 8 ∨ _) ∧ _ ↔ _
      have one : (1#3).toNat = 1 := rfl
      omega
    have read := readings_record r other []
    rw [List.append_nil] at read
    refine judged.trans ?_
    rw [read]
    simp only [content]
    rfl
  · have judged := judgeFrame_sent now 2#3 node (BitVec.ofNat 2 (rs.length - 1)) q high i
      (rs.flatMap fun x => nodeRecordChars x.1 x.2) (by rw [records_length]; omega)
    have content : frameContentOk (headerChar 2#3 node) (secondChar (BitVec.ofNat 2 (rs.length - 1)) q)
        (thirdChar high i) ((rs.flatMap fun x => nodeRecordChars x.1 x.2).length + 5) = true ↔ node.val ≤ 30 := by
      have two : (2#3).toNat = 2 := rfl
      have count : (BitVec.ofNat 2 (rs.length - 1)).toNat = rs.length - 1 := by
        rw [BitVec.toNat_ofNat]
        omega
      rw [frameContentOk_iff, headerChar_toNat, secondChar_count, thirdChar_toNat, records_length, count]
      omega
    refine judged.trans ?_
    rw [readings_records]
    simp only [content]

/-! ## The order of the judgement (R127, R128) -/

theorem judgeFrame_short {now : Time} {chars : List Byte} (short : chars.length < 8) :
    judgeFrame now chars = .formatError := if_pos short

/-- Settles O9: after the length and the CRC the content tests decide, and each clause fails one of them. -/
theorem frameJudgementOrder : Obligations.FrameJudgementOrder := by
  intro now chars
  refine ⟨rfl, rfl, judgeFrame_short, ?_⟩
  intro span code split two long
  subst split
  rw [List.length_append, two] at long
  obtain ⟨header, second, third, records, rfl⟩ : ∃ header second third records,
      span = header :: second :: third :: records := by
    rcases span with _ | ⟨header, _ | ⟨second, _ | ⟨third, records⟩⟩⟩
    case cons.cons.cons => exact ⟨header, second, third, records, rfl⟩
    all_goals exact absurd long (by simp)
  have enough : 3 ≤ records.length := by
    simp only [List.length_cons] at long
    omega
  have judged := judgeFrame_split now header second third records code two enough
  refine ⟨fun differs => ?_, ?_⟩
  · exact judged.trans (if_pos differs)
  · rintro agrees header second third records ⟨⟩
    rw [if_neg (not_not.mpr agrees)] at judged
    have refused (fails : ¬frameContentOk header second third (records.length + 5) = true) :
        frameVerdict .idleGap now (header :: second :: third :: records ++ code) = .formatError :=
      judged.trans (if_neg fails)
    have length : (header :: second :: third :: records ++ code).length = records.length + 5 := by
      simp [two]
    rw [length]
    rw [frameContentOk_iff] at refused
    refine ⟨?_, ?_, ?_, ?_, ?_, ?_⟩
    all_goals
      intros
      apply refused
      omega

/-! ## Frame ends (R129 to R132) -/

/-- A frame that begins with its end's own characters is judged by those characters. -/
theorem frameEndEvent_receiving {l : LaneId} {cause : FrameEndCause} {chars : List Byte}
    (receiving : s.lanes[l].state = .receiving) (begun : s.lanes[l].frame = some [])
    (agree : frameCharsAgree cause chars = true) : frameEndEvent l cause chars s =
      match frameVerdict cause s.deviceTime chars with
      | .good f => s.setLane l (s.lanes[l].accept f)
      | v =>
        if s.lanes[l].reachesThreshold then
          raiseDevice (.laneSuspended l) (s.setLane l (s.lanes[l].error s.deviceTime v))
        else s.setLane l (s.lanes[l].error s.deviceTime v) := by
  unfold frameEndEvent
  dsimp only
  rw [begun]
  dsimp only
  rw [List.nil_append, agree, receiving]
  rfl

theorem frameEndEvent_suspended {l : LaneId} {cause : FrameEndCause} {chars : List Byte}
    (suspended : s.lanes[l].state = .suspended) (begun : s.lanes[l].frame = some [])
    (agree : frameCharsAgree cause chars = true) : frameEndEvent l cause chars s = s.setLane l s.lanes[l].drop := by
  unfold frameEndEvent
  dsimp only
  rw [begun]
  dsimp only
  rw [List.nil_append, agree, suspended]
  rfl

theorem exec_frameEnd (l : LaneId) (cause : FrameEndCause) (chars : List Byte) (running : s.inReset = false) :
    exec (.frameEnd l cause chars) s = .next (frameEndEvent l cause chars s) := running_released s _ running

theorem exec_holdoffExpiry (l : LaneId) (running : s.inReset = false) :
    exec (.holdoffExpiry l) s = .next (holdoffExpiryEvent l s) := running_released s _ running

/-- The counters of an error in the words of the statements. -/
theorem countError_eq (c : LaneCounters) {v : FrameVerdict} (error : ∀ f, v ≠ .good f) :
    c.countError v = errorCounters c v := by
  cases v with
  | good f => exact absurd rfl (error f)
  | lineError => rfl
  | checkError => rfl
  | formatError => rfl

theorem reachesThreshold_iff (x : Lane) : x.reachesThreshold = true ↔ x.errors + 1 = x.settings.threshold := beq_iff_eq

/-- Settles O10: the verdict chooses among acceptance, overrun and error, and the threshold decides the error. -/
theorem frameEndInReceivingJudgesTheFrame : Obligations.FrameEndInReceivingJudgesTheFrame := by
  intro l cause chars s running receiving begun agree
  rw [exec_frameEnd l cause chars running, frameEndEvent_receiving receiving begun agree]
  refine ⟨fun f good room => ?_, fun f good full => ?_, ?_⟩
  · rw [good]
    dsimp only
    rw [Lane.accept, if_pos (show s.lanes[l].fifo.length < Config.fifoCapacity from room)]
  · rw [good]
    dsimp only
    rw [Lane.accept, if_neg (show ¬s.lanes[l].fifo.length < Config.fifoCapacity from not_lt.mpr full)]
  · rintro v verdict error
    have judged : (match frameVerdict cause s.deviceTime chars with
        | .good f => s.setLane l (s.lanes[l].accept f)
        | v =>
          if s.lanes[l].reachesThreshold then
            raiseDevice (.laneSuspended l) (s.setLane l (s.lanes[l].error s.deviceTime v))
          else s.setLane l (s.lanes[l].error s.deviceTime v)) =
        if s.lanes[l].reachesThreshold then
          raiseDevice (.laneSuspended l) (s.setLane l (s.lanes[l].error s.deviceTime v))
        else s.setLane l (s.lanes[l].error s.deviceTime v) := by
      rw [verdict]
      cases v with
      | good f => exact absurd rfl (error f)
      | lineError | checkError | formatError => rfl
    rw [judged]
    refine ⟨fun below => ?_, fun reached => ?_⟩
    · have short : ¬s.lanes[l].reachesThreshold = true := fun h => below ((reachesThreshold_iff _).mp h)
      rw [if_neg short, Lane.error, if_neg short, countError_eq _ error]
    · have full := (reachesThreshold_iff s.lanes[l]).mpr reached
      rw [if_pos full, Lane.error, if_pos full, countError_eq _ error]
      rfl

theorem Lane.drop_eq (x : Lane) (suspended : x.state = .suspended) : x.drop =
    { x with
      state := if x.holdoffElapsed then .hunt else .suspended
      frame := none
      errors := if x.holdoffElapsed then 0 else x.errors
      holdoffElapsed := false
      counters :=
        { x.counters with
          framesEnded := x.counters.framesEnded + 1
          suspendedDrops := x.counters.suspendedDrops + 1 } } := by
  cases elapsed : x.holdoffElapsed with
  | true => simp [Lane.drop, elapsed]
  | false => simp [Lane.drop, elapsed, suspended]

/-- Settles O11: by the cases of the frame end and of the expiry. -/
theorem suspensionDropsFramesAndEndsAfterItsHoldoff : Obligations.SuspensionDropsFramesAndEndsAfterItsHoldoff := by
  refine ⟨fun l cause chars s running suspended begun agree => ?_, fun l s running => ?_⟩
  · rw [exec_frameEnd l cause chars running, frameEndEvent_suspended suspended begun agree, Lane.drop_eq _ suspended]
  · rw [exec_holdoffExpiry l running]
    refine ⟨fun due => ?_, fun early => ?_⟩
    · rw [holdoffExpiryEvent, if_pos due]
      refine ⟨fun none => ?_, fun some => ?_⟩
      · simp only [Lane.holdoffEnd, none]
      · obtain ⟨chars, busy⟩ := Option.ne_none_iff_exists'.mp some
        simp only [Lane.holdoffEnd, busy]
    · rw [holdoffExpiryEvent, early]
      rfl

end Sys2Proof.Machine
end

section
/-! PROOF. The lane requests: the checks of SET_LANE in their order (O12), what it writes, enables and disables (O13,
O14), READ_LANE, CLEAR_LANE_COUNTERS and SET_PAIR (O15). -/

namespace Sys2Proof.Machine

-- One proof after the other: many at once ask for too many threads.
set_option Elab.async false

variable {s : State} {tag : Tag} {rest : List (List Byte)} {l : LaneId}

/-! ## The checks in their order (R122) -/

theorem laneChecks_verdict (o : List Byte) : firstFailure (laneChecks o) =
    if 2 ≤ numAt o 1 then some 2
    else if 5 ≤ numAt o 2 then some 3
    else if numAt o 3 = 0 ∨ 15 < numAt o 3 then some 4
    else if numAt o 4 = 0 then some 5
    else if 2 ≤ numAt o 5 then some 6
    else none := by
  have enable : (enumOf enables (byteAt o 1)).isSome = true ↔ ¬2 ≤ numAt o 1 := by
    simp [enumOf_isSome, enables, numAt]
  have rate : (enumOf bitRates (byteAt o 2)).isSome = true ↔ ¬5 ≤ numAt o 2 := by
    simp [enumOf_isSome, bitRates, numAt]
  have unmatched : (enumOf unmatchedOptions (byteAt o 5)).isSome = true ↔ ¬2 ≤ numAt o 5 := by
    simp [enumOf_isSome, unmatchedOptions, numAt]
  have byte : numAt o 4 < 256 := (byteAt o 4).isLt
  refine firstFailure_check enable <| firstFailure_check rate <| firstFailure_check ?threshold <|
    firstFailure_check ?holdoff <| firstFailure_check unmatched firstFailure_nil
  all_goals
    simp only [Bool.and_eq_true, decide_eq_true_eq]
    omega

/-- The first of the four settings that differs, by its field number. -/
theorem settingsDiffer_verdict (present operands : LaneSettings) : settingsDiffer present operands =
    if operands.bitRate ≠ present.bitRate then some 3
    else if operands.threshold ≠ present.threshold then some 4
    else if operands.holdoff ≠ present.holdoff then some 5
    else if operands.unmatched ≠ present.unmatched then some 6
    else none := by
  refine firstFailure_check ?_ <| firstFailure_check ?_ <| firstFailure_check ?_ <|
    firstFailure_check ?_ firstFailure_nil
  all_goals rw [beq_iff_eq, not_not, eq_comm]

theorem settingsDiffer_self (present : LaneSettings) : settingsDiffer present present = none := by
  rw [settingsDiffer_verdict]
  simp only [ne_eq, not_true_eq_false, if_false]

theorem settingsDiffer_ne {present operands : LaneSettings} (differ : operands ≠ present) :
    settingsDiffer present operands =
      some (if operands.bitRate ≠ present.bitRate then 3
        else if operands.threshold ≠ present.threshold then 4
        else if operands.holdoff ≠ present.holdoff then 5
        else 6) := by
  rw [settingsDiffer_verdict]
  split
  · rfl
  split
  · rfl
  split
  · rfl
  next rate threshold holdoff =>
  have unmatched : operands.unmatched ≠ present.unmatched := by
    intro same
    obtain ⟨r, t, h, u⟩ := operands
    simp only [ne_eq, not_not] at rate threshold holdoff same
    exact differ (by rw [rate, threshold, holdoff, same])
  rw [if_pos unmatched]

/-! ## SET_LANE's own checks and effect -/

section own

variable {o : List Byte}

theorem setLaneOwn_unnamedLane (lane : laneOf (byteAt o 0) = none) : setLaneOwn tag o s = badIndex (byteAt o 0) s := by
  simp only [setLaneOwn, lane]

theorem setLaneOwn_badValue {field : Nat} (lane : laneOf (byteAt o 0) = some l)
    (fails : firstFailure (laneChecks o) = some field) : setLaneOwn tag o s = badValue field s := by
  simp only [setLaneOwn, lane, fails]

theorem setLaneOwn_laneActive {field : Nat} (lane : laneOf (byteAt o 0) = some l)
    (passes : firstFailure (laneChecks o) = none) (enabled : s.lanes[l].enabled = true)
    (differs : settingsDiffer s.lanes[l].settings (laneSettingsOf o) = some field) :
    setLaneOwn tag o s = refuse .laneActive (u8 field) s := by
  unfold setLaneOwn
  simp only [lane, passes]
  rw [if_pos enabled, differs]

theorem setLaneOwn_applies {on : Bool} (lane : laneOf (byteAt o 0) = some l)
    (passes : firstFailure (laneChecks o) = none) (enable : enumOf enables (byteAt o 1) = some on)
    (agree : s.lanes[l].state = .disabled ∨ laneSettingsOf o = s.lanes[l].settings) :
    setLaneOwn tag o s =
      answerOk (setLaneResults l (applySetLane l on (laneSettingsOf o) s)) (applySetLane l on (laneSettingsOf o) s) := by
  have same : (if s.lanes[l].enabled = true then settingsDiffer s.lanes[l].settings (laneSettingsOf o) else none) =
      none := by
    rcases agree with disabled | same
    · rw [if_neg (mt (Lane.enabled_iff _).mp (not_not.mpr disabled))]
    · rw [same, settingsDiffer_self, ite_self]
  unfold setLaneOwn
  simp only [lane, passes]
  rw [same, enable]
  rfl

/-- SET_LANE answers as its own checks do: six operands, and it names no map. -/
theorem setLane_answers {t : State} {status : Status} {results : List Byte} {b0 b1 b2 b3 b4 b5 : Byte}
    (takes : Takes s tag 15#8 [b0, b1, b2, b3, b4, b5] rest)
    (ran : setLaneOwn tag [b0, b1, b2, b3, b4, b5] (taken tag rest s) = ⟨taken tag rest t, some ⟨status, results⟩⟩) :
    Answers .setLane s tag rest status results t := take_answers (o := .setLane) takes rfl (.inl rfl) ran

end own

/-! ## The operands of a SET_LANE -/

theorem lane_toNat (l : LaneId) : (BitVec.ofNat 8 l.val).toNat = l.val := by
  have := l.isLt
  rw [BitVec.toNat_ofNat]
  omega

/-- The six operands of a SET_LANE with this lane, enable and settings. -/
structure NamesSettings (b1 b2 b3 b4 b5 : Byte) (on : Bool) (new : LaneSettings) : Prop where
  enable : b1 = BitVec.ofNat 8 (enableCode on)
  bitRate : b2 = BitVec.ofNat 8 new.bitRate.code
  threshold : b3.toNat = new.threshold
  holdoff : b4.toNat = new.holdoff
  unmatched : b5 = BitVec.ofNat 8 new.unmatched.code

theorem NamesSettings.settings {b0 b1 b2 b3 b4 b5 : Byte} {on : Bool} {new : LaneSettings}
    (named : NamesSettings b1 b2 b3 b4 b5 on new) : laneSettingsOf [b0, b1, b2, b3, b4, b5] = new := by
  obtain ⟨enable, rate, threshold, holdoff, unmatched⟩ := named
  have byRate : enumOf bitRates b2 = some new.bitRate := rate ▸ enumOf_bitRate _
  have byUnmatched : enumOf unmatchedOptions b5 = some new.unmatched := unmatched ▸ enumOf_unmatched _
  show (⟨(enumOf bitRates b2).getD .r19200, b3.toNat, b4.toNat, (enumOf unmatchedOptions b5).getD .discard⟩ :
    LaneSettings) = new
  rw [byRate, threshold, holdoff, byUnmatched]
  rfl

theorem NamesSettings.passes {b0 b1 b2 b3 b4 b5 : Byte} {on : Bool} {new : LaneSettings}
    (named : NamesSettings b1 b2 b3 b4 b5 on new) (one : 1 ≤ new.threshold) (fifteen : new.threshold ≤ 15)
    (positive : 1 ≤ new.holdoff) : firstFailure (laneChecks [b0, b1, b2, b3, b4, b5]) = none := by
  obtain ⟨enable, rate, threshold, holdoff, unmatched⟩ := named
  have enableCode : b1.toNat < 2 := by subst enable; cases on <;> decide
  have rateCode : b2.toNat < 5 := by subst rate; cases new.bitRate <;> decide
  have unmatchedCode : b5.toNat < 2 := by subst unmatched; cases new.unmatched <;> decide
  rw [laneChecks_verdict]
  show (if 2 ≤ b1.toNat then some 2 else if 5 ≤ b2.toNat then some 3
    else if b3.toNat = 0 ∨ 15 < b3.toNat then some 4 else if b4.toNat = 0 then some 5
    else if 2 ≤ b5.toNat then some 6 else none) = none
  rw [if_neg (by omega), if_neg (by omega), if_neg (by omega), if_neg (by omega), if_neg (by omega)]

/-- Settles O12: the operand checks give the first refusal, and on an enabled lane the first differing setting. -/
theorem setLaneChecksInOrder : Obligations.SetLaneChecksInOrder := by
  intro s tag b0 b1 b2 b3 b4 b5 rest takes
  have verdict : firstFailure (laneChecks [b0, b1, b2, b3, b4, b5]) =
      if 2 ≤ b1.toNat then some 2 else if 5 ≤ b2.toNat then some 3
      else if b3.toNat = 0 ∨ 15 < b3.toNat then some 4 else if b4.toNat = 0 then some 5
      else if 2 ≤ b5.toNat then some 6 else none := laneChecks_verdict _
  have refuses {field : Nat} (lane : b0.toNat < 8)
      (fails : firstFailure (laneChecks [b0, b1, b2, b3, b4, b5]) = some field) :
      Answers .setLane s tag rest .badValue (u8 field) s :=
    setLane_answers takes (setLaneOwn_badValue (laneOf_some (l := ⟨b0.toNat, lane⟩) rfl) fails)
  refine ⟨fun unnamed => ?_, fun lane enable => ?_, fun lane enable => ⟨fun rate => ?_, fun rate threshold => ?_,
    fun rate one fifteen holdoff => ?_, fun rate one fifteen holdoff unmatched => ?_⟩, ?_⟩
  · exact setLane_answers takes (setLaneOwn_unnamedLane (laneOf_none unnamed))
  · exact refuses lane (by rw [verdict, if_pos enable])
  · exact refuses lane (by rw [verdict, if_neg (by omega), if_pos rate])
  · exact refuses lane (by rw [verdict, if_neg (by omega), if_neg (by omega), if_pos threshold])
  · exact refuses lane (by rw [verdict, if_neg (by omega), if_neg (by omega), if_neg (by omega), if_pos holdoff])
  · exact refuses lane (by
      rw [verdict, if_neg (by omega), if_neg (by omega), if_neg (by omega), if_neg (by omega), if_pos unmatched])
  · intro l on new lane enable rate threshold holdoff unmatched one fifteen positive enabled differ
    have named : NamesSettings b1 b2 b3 b4 b5 on new := ⟨enable, rate, threshold, holdoff, unmatched⟩
    have first := settingsDiffer_ne differ
    have refused := setLane_answers takes (setLaneOwn_laneActive (s := taken tag rest s) (tag := tag) (l := l)
      (laneOf_some (lane ▸ lane_toNat l)) (named.passes one fifteen positive)
      ((Lane.enabled_iff _).mpr enabled) (by rw [named.settings]; exact first))
    split
    · next h => rwa [if_pos h] at refused
    split
    · next h h' => rwa [if_neg h, if_pos h'] at refused
    split
    · next h h' h'' => rwa [if_neg h, if_neg h', if_pos h''] at refused
    · next h h' h'' => rwa [if_neg h, if_neg h', if_neg h''] at refused

end Sys2Proof.Machine
end

section
/-! PROOF. What a SET_LANE that passes its checks does: it writes, enables and disables (O13), and the disable of a
JOINED pair disposes of its relay frames (O14). -/

namespace Sys2Proof.Machine

-- One proof after the other: many at once ask for too many threads.
set_option Elab.async false

variable {s : State} {tag : Tag} {rest : List (List Byte)} {l : LaneId}

/-! ## The effect does not see the request's removal -/

theorem disableLane_taken (l : LaneId) (s : State) : disableLane l (taken tag rest s) = taken tag rest (disableLane l s) := by
  unfold disableLane State.mapReached State.reached
  rw [taken_joined]
  cases s.joined l with
  | false => rfl
  | true =>
    dsimp only
    rw [if_pos rfl, if_pos rfl, disposeRelay_eq, disposeRelay_eq]
    rfl

theorem enableLane_taken (l : LaneId) (s : State) : enableLane l (taken tag rest s) = taken tag rest (enableLane l s) := by
  unfold enableLane State.mapReached State.reached
  rw [taken_joined]
  cases s.joined l <;> rfl

theorem applySetLane_taken (l : LaneId) (on : Bool) (settings : LaneSettings) (s : State) :
    applySetLane l on settings (taken tag rest s) = taken tag rest (applySetLane l on settings s) := by
  unfold applySetLane
  dsimp only
  rw [taken_lanes]
  split
  · split
    · rfl
    · exact disableLane_taken l s
  · split
    · exact enableLane_taken l (s.setLane l { s.lanes[l] with settings := settings })
    · rfl

/-- A SET_LANE that passes its checks answers from the state its effect leaves. -/
theorem setLane_applies {b1 b2 b3 b4 b5 : Byte} {on : Bool} {new : LaneSettings}
    (named : NamesSettings b1 b2 b3 b4 b5 on new) (one : 1 ≤ new.threshold) (fifteen : new.threshold ≤ 15)
    (positive : 1 ≤ new.holdoff) (takes : Takes s tag 15#8 [BitVec.ofNat 8 l.val, b1, b2, b3, b4, b5] rest)
    (agree : s.lanes[l].state = .disabled ∨ new = s.lanes[l].settings) :
    Answers .setLane s tag rest .ok (setLaneResults l (applySetLane l on new s)) (applySetLane l on new s) := by
  have enable : enumOf enables b1 = some on := named.enable ▸ enumOf_enable on
  have own := setLaneOwn_applies (s := taken tag rest s) (tag := tag) (on := on)
    (o := [BitVec.ofNat 8 l.val, b1, b2, b3, b4, b5]) (laneOf_some (lane_toNat l))
    (named.passes one fifteen positive) enable (by rw [named.settings]; exact agree)
  rw [named.settings, applySetLane_taken] at own
  exact setLane_answers takes own

/-! ## What the effect leaves -/

theorem reaches_self (s : State) (l : LaneId) : s.reaches l l = true := by
  rw [State.reaches, beq_self_eq_true, Bool.true_or]

theorem applySetLane_writes (disabled : s.lanes[l].state = .disabled) (on : Bool) (new : LaneSettings) :
    applySetLane l on new s =
      if on = true then enableLane l (s.setLane l { s.lanes[l] with settings := new })
      else s.setLane l { s.lanes[l] with settings := new } := by
  unfold applySetLane
  dsimp only
  rw [if_neg (mt (Lane.enabled_iff _).mp (not_not.mpr disabled))]

theorem applySetLane_enabled (enabled : ¬s.lanes[l].state = .disabled) (on : Bool) (new : LaneSettings) :
    applySetLane l on new s = if on = true then s else disableLane l s := by
  unfold applySetLane
  dsimp only
  rw [if_pos ((Lane.enabled_iff _).mpr enabled)]

theorem disableLane_split (split : s.joined l = false) : ∃ (lanes : Vector Lane 8) (records : Vector RuntimeRecord 256),
    disableLane l s = { s with lanes := lanes, records := records } ∧
    (∀ i : LaneId, lanes[i] = if i = l then s.lanes[i].disable else s.lanes[i]) ∧
    ∀ p : PointId, records[p] =
      if (s.activePoint p).entry.valid = true ∧ (s.activePoint p).entry.lane = l then s.records[p].laneDisabled
      else s.records[p] := by
  obtain ⟨lanes, records, closed, rfl, e, eachLane, eachRecord⟩ := disableLane_eq s l
  have alone (i : LaneId) : s.reaches l i = true ↔ i = l := by
    rw [reaches_iff, split]
    simp
  simp only [alone] at eachLane eachRecord
  exact ⟨lanes, records, by rw [e, if_neg (by rw [split]; exact Bool.false_ne_true)], eachLane, eachRecord⟩

/-- The lanes after the effect, in the words of the statement. -/
def setLaneLanes (s : State) (l : LaneId) (on : Bool) (new : LaneSettings) (i : LaneId) : Lane :=
  if s.lanes[l].state = .disabled then
    if on ∧ s.reaches l i then
      ⟨if i = l then new else s.lanes[i].settings, .hunt, none, false, 0, none, [], ⟨0, 0, 0, 0, 0, 0, 0, 0⟩⟩
    else { s.lanes[i] with settings := if i = l then new else s.lanes[i].settings }
  else if on = false ∧ i = l then
    ⟨s.lanes[i].settings, .disabled, none, false, 0, none, [], s.lanes[i].counters⟩
  else s.lanes[i]

/-- The records after the effect, in the words of the statement. -/
def setLaneRecords (s : State) (l : LaneId) (on : Bool) (p : PointId) : RuntimeRecord :=
  if s.lanes[l].state = .disabled then
    if on ∧ pointUsable (s.activePoint p) ∧ 0 < (s.activePoint p).entry.staleLimit ∧
        s.reaches l (s.activePoint p).entry.lane ∧
        s.transmitting (s.activePoint p).entry.lane = false ∧
        s.records[p].condition ≠ .stale then
      { s.records[p] with
        timer := some ⟨s.deviceTime, BitVec.ofNat 32 ((s.activePoint p).entry.staleLimit * 100)⟩ }
    else s.records[p]
  else if on = false ∧ (s.activePoint p).entry.valid ∧ (s.activePoint p).entry.lane = l then
    { s.records[p] with condition := .unknown, vote := 0, timer := none, lastSequence := none }
  else s.records[p]

/-- The pairs after the effect, in the words of the statement. -/
def setLanePairs (s : State) (l : LaneId) (on : Bool) : Vector Pair 4 :=
  if s.lanes[l].state = .disabled ∧ on ∧ s.joined l then
    rowSet s.pairs (pairOf l) ⟨s.pairs[pairOf l].mode, ⟨.idle, none, []⟩⟩
  else s.pairs

/-- The written lane alone takes the settings. -/
theorem written_lane (new : LaneSettings) (i : LaneId) : (s.setLane l { s.lanes[l] with settings := new }).lanes[i] =
    { s.lanes[i] with settings := if i = l then new else s.lanes[i].settings } := by
  rw [State.setLane_lanes, rowSet_apply]
  by_cases here : i = l
  · subst here
    rw [if_pos rfl, if_pos rfl]
  · rw [if_neg here, if_neg here]

theorem applySetLane_eq (on : Bool) (new : LaneSettings)
    (alone : on = true ∨ s.lanes[l].state = .disabled ∨ s.joined l = false) :
    ∃ (lanes : Vector Lane 8) (records : Vector RuntimeRecord 256),
      applySetLane l on new s = { s with lanes := lanes, records := records, pairs := setLanePairs s l on } ∧
      (∀ i : LaneId, lanes[i] = setLaneLanes s l on new i) ∧
      ∀ p : PointId, records[p] = setLaneRecords s l on p := by
  by_cases disabled : s.lanes[l].state = .disabled
  · rw [applySetLane_writes disabled]
    cases on with
    | false =>
      refine ⟨(s.setLane l { s.lanes[l] with settings := new }).lanes, s.records, ?_,
        fun i => (written_lane (s := s) (l := l) new i).trans ?_, fun p => ?_⟩
      · rw [if_neg Bool.false_ne_true, setLanePairs, if_neg (fun h => Bool.false_ne_true h.2.1)]
        rfl
      · rw [setLaneLanes, if_pos disabled,
          if_neg (show ¬(false = true ∧ s.reaches l i = true) from fun h => Bool.false_ne_true h.1)]
      · rw [setLaneRecords, if_pos disabled, if_neg (fun h => Bool.false_ne_true h.1)]
    | true =>
      obtain ⟨lanes, records, e, eachLane, eachRecord⟩ :=
        enableLane_eq (s.setLane l { s.lanes[l] with settings := new }) l
      refine ⟨lanes, records, ?_, fun i => (eachLane i).trans ?_, fun p => (eachRecord p).trans ?_⟩
      · rw [if_pos rfl, e, setLanePairs]
        simp only [disabled, true_and]
        rfl
      · rw [setLaneLanes, if_pos disabled, written_lane new i]
        show (if s.reaches l i = true then _ else _) = _
        simp only [true_and]
        rfl
      · rw [setLaneRecords, if_pos disabled]
        simp only [true_and]
        rfl
  · rw [applySetLane_enabled disabled]
    have pairs : setLanePairs s l on = s.pairs := if_neg fun h => disabled h.1
    rw [pairs]
    cases on with
    | true =>
      refine ⟨s.lanes, s.records, if_pos rfl, fun i => ?_, fun p => ?_⟩
      · rw [setLaneLanes, if_neg disabled, if_neg (fun h => Bool.noConfusion h.1)]
      · rw [setLaneRecords, if_neg disabled, if_neg (fun h => Bool.noConfusion h.1)]
    | false =>
      have split : s.joined l = false := by
        rcases alone with yes | off | split
        · cases yes
        · exact absurd off disabled
        · exact split
      obtain ⟨lanes, records, e, eachLane, eachRecord⟩ := disableLane_split split
      refine ⟨lanes, records, e, fun i => (eachLane i).trans ?_, fun p => (eachRecord p).trans ?_⟩
      · rw [setLaneLanes, if_neg disabled]
        simp only [true_and]
        rfl
      · rw [setLaneRecords, if_neg disabled]
        simp only [true_and]
        rfl

/-- The named lane has the settings and the enable of the request. -/
theorem setLaneLanes_named (on : Bool) {new : LaneSettings}
    (agree : s.lanes[l].state = .disabled ∨ new = s.lanes[l].settings) :
    (setLaneLanes s l on new l).settings = new ∧ (setLaneLanes s l on new l).enabled = on := by
  unfold setLaneLanes
  by_cases disabled : s.lanes[l].state = .disabled
  · rw [if_pos disabled]
    cases on with
    | true =>
      rw [if_pos ⟨rfl, reaches_self s l⟩, if_pos rfl]
      exact ⟨rfl, rfl⟩
    | false =>
      rw [if_neg (fun h => Bool.false_ne_true h.1), if_pos rfl]
      exact ⟨rfl, by rw [Lane.enabled, disabled]; rfl⟩
  · have same := agree.resolve_left disabled
    rw [if_neg disabled, same]
    cases on with
    | true =>
      rw [if_neg (fun h => Bool.noConfusion h.1)]
      exact ⟨rfl, (Lane.enabled_iff _).mpr disabled⟩
    | false =>
      rw [if_pos ⟨rfl, rfl⟩]
      exact ⟨rfl, rfl⟩

/-- The results of a SET_LANE, from the named lane's settings and enable after the event. -/
theorem setLaneResults_eq {t : State} {on : Bool} {new : LaneSettings} (settings : t.lanes[l].settings = new)
    (enabled : t.lanes[l].enabled = on) : setLaneResults l t =
      u8 l.val ++ u8 (enableCode on) ++ u8 new.bitRate.code ++ u8 new.threshold ++ u8 new.holdoff ++
        u8 new.unmatched.code ++ u8 t.lanes[l].state.code ++
        (if t.joined l then 1#8 :: u8 (partner l).val ++ 1#8 :: u8 t.lanes[partner l].state.code
          else [0#8, 0#8, 0#8, 0#8]) := by
  unfold setLaneResults laneSettingsField
  dsimp only
  rw [settings, enabled]
  cases t.joined l <;> rfl

/-- Settles O13: the effect's lanes and records, and the results that the named lane gives. -/
theorem setLaneWritesEnablesAndDisables : Obligations.SetLaneWritesEnablesAndDisables := by
  intro s tag l on new rest one fifteen positive small takes agree alone
  obtain ⟨lanes, records, e, eachLane, eachRecord⟩ := applySetLane_eq on new alone
  have named : NamesSettings (BitVec.ofNat 8 (enableCode on)) (BitVec.ofNat 8 new.bitRate.code)
      (BitVec.ofNat 8 new.threshold) (BitVec.ofNat 8 new.holdoff) (BitVec.ofNat 8 new.unmatched.code) on new :=
    { enable := rfl
      bitRate := rfl
      threshold := by rw [BitVec.toNat_ofNat]; omega
      holdoff := by rw [BitVec.toNat_ofNat]; omega
      unmatched := rfl }
  have answered := setLane_applies named one fifteen positive takes agree
  obtain ⟨settings, enabled⟩ := setLaneLanes_named (s := s) (l := l) on agree
  rw [← eachLane l] at settings enabled
  have joined : State.joined { s with lanes := lanes, records := records, pairs := setLanePairs s l on } l =
      s.joined l := by
    unfold State.joined setLanePairs
    dsimp only
    split
    · rw [rowSet_self]
    · rfl
  rw [e, setLaneResults_eq settings enabled, joined] at answered
  exact ⟨_, answered, eachLane, eachRecord, rfl⟩

/-! ## The disable of a JOINED pair (R137, R144) -/

theorem partner_pairOf (l : LaneId) : pairOf (partner l) = pairOf l := by
  unfold partner
  split
  · exact pairOf_oddLane _
  · exact pairOf_evenLane _

/-- The disable of a JOINED pair, field by field: both lanes closed, their points UNKNOWN, the relay frames out. -/
theorem disableLane_joined (joined : s.joined l = true) :
    (∀ i : LaneId, (disableLane l s).lanes[i] = if pairOf i = pairOf l then s.lanes[i].disable else s.lanes[i]) ∧
    (∀ p : PointId, (disableLane l s).records[p] =
      if (s.activePoint p).entry.valid ∧ pairOf (s.activePoint p).entry.lane = pairOf l then s.records[p].laneDisabled
      else s.records[p]) ∧
    disableLane l s = { s with
      lanes := (disableLane l s).lanes
      records := (disableLane l s).records
      pairs := rowSet s.pairs (pairOf l) ⟨s.pairs[pairOf l].mode, RelayTransmitter.reset⟩
      out :=
        { s.out with
          replyQ :=
            s.out.replyQ ++
              s.pairs[pairOf l].relay.sending.toList.flatMap (doneMessages (pairOf l) .abandoned) ++
              s.pairs[pairOf l].relay.queue.flatMap (doneMessages (pairOf l) .discarded)
          absorbed :=
            s.out.absorbed + BitVec.ofNat 32
              (s.pairs[pairOf l].relay.frames.countP (fun f => f.confirm == some .cancelled)) }
      cuts := (disableLane l s).cuts } ∧
    (disableLane l s).cuts.trunk = s.cuts.trunk ∧ s.relayCutTo (pairOf l) (disableLane l s).cuts ∧
    ∀ k : PairId, k ≠ pairOf l → (disableLane l s).cuts.relays[k] = s.cuts.relays[k] := by
  obtain ⟨lanes, records, closed, hclosed, e, eachLane, eachRecord⟩ := disableLane_eq s l
  have pair (i : LaneId) : s.reaches l i = true ↔ pairOf i = pairOf l := by
    rw [reaches_iff, joined]
    simp
  simp only [pair] at eachLane eachRecord
  obtain ⟨⟨idle, sent⟩, trunk, others⟩ := cutRelay_to closed (pairOf l)
  have even : lanes[evenLane (pairOf l)].settings = s.lanes[evenLane (pairOf l)].settings := by
    rw [eachLane, if_pos (pairOf_evenLane _)]
    rfl
  rw [if_pos joined, disposeRelay_eq] at e
  rw [e]
  subst hclosed
  dsimp only at idle sent trunk others
  rw [even] at sent
  exact ⟨eachLane, eachRecord, rfl, trunk, ⟨idle, sent⟩, others⟩

/-- Settles O14: the reached lanes are the pair's, and the disposal's frames come out ahead of the reply. -/
theorem joinedDisableDisposesRelayFrames : Obligations.JoinedDisableDisposesRelayFrames := by
  intro s tag l rest one fifteen positive small enabled joined takes
  obtain ⟨eachLane, eachRecord, frame, trunk, cut, others⟩ := disableLane_joined joined
  have named : NamesSettings (BitVec.ofNat 8 (enableCode false)) (BitVec.ofNat 8 s.lanes[l].settings.bitRate.code)
      (BitVec.ofNat 8 s.lanes[l].settings.threshold) (BitVec.ofNat 8 s.lanes[l].settings.holdoff)
      (BitVec.ofNat 8 s.lanes[l].settings.unmatched.code) false s.lanes[l].settings :=
    { enable := rfl
      bitRate := rfl
      threshold := by rw [BitVec.toNat_ofNat]; omega
      holdoff := by rw [BitVec.toNat_ofNat]; omega
      unmatched := rfl }
  have answered := setLane_applies named one fifteen positive takes (.inr rfl)
  rw [applySetLane_enabled enabled, if_neg Bool.false_ne_true] at answered
  have here : (disableLane l s).lanes[l] = s.lanes[l].disable := by rw [eachLane l, if_pos rfl]
  have there : (disableLane l s).lanes[partner l] = s.lanes[partner l].disable := by
    rw [eachLane, if_pos (partner_pairOf l)]
  have pair : (disableLane l s).pairs[pairOf l] = ⟨s.pairs[pairOf l].mode, RelayTransmitter.reset⟩ := by
    rw [frame]
    exact rowSet_self ..
  have mode : s.pairs[pairOf l].mode = .joined := beq_iff_eq.mp joined
  have joins : (disableLane l s).joined l = true := by
    rw [State.joined, pair, mode]
    rfl
  rw [setLaneResults_eq (new := s.lanes[l].settings) (on := false) (by rw [here]; rfl) (by rw [here]; rfl), joins,
    if_pos rfl, here, there] at answered
  refine ⟨disableLane l s, ?_, eachLane, eachRecord, frame, trunk, cut, others, ?_, ?_⟩
  · exact answered
  · rw [State.lde, pair]
    exact Bool.and_false _
  · rw [State.ltx, pair, mode]
    rfl

end Sys2Proof.Machine
end

section
/-! PROOF. READ_LANE, CLEAR_LANE_COUNTERS and SET_PAIR (O15), the transmissions of a Relay Transmitter (O17), and the
frame the Classifier takes (O18). -/

namespace Sys2Proof.Machine

-- One proof after the other: many at once ask for too many threads.
set_option Elab.async false

variable {s : State} {tag : Tag} {rest : List (List Byte)} {l : LaneId} {k : PairId}

/-! ## READ_LANE and CLEAR_LANE_COUNTERS (R134, R135) -/

theorem readLane_answers {t : State} {status : Status} {results : List Byte} {b : Byte}
    (takes : Takes s tag 16#8 [b] rest)
    (ran : readLaneOwn tag [b] (taken tag rest s) = ⟨taken tag rest t, some ⟨status, results⟩⟩) :
    Answers .readLane s tag rest status results t := take_answers (o := .readLane) takes rfl (.inl rfl) ran

theorem clearLaneCounters_answers {t : State} {status : Status} {results : List Byte} {b : Byte}
    (takes : Takes s tag 17#8 [b] rest)
    (ran : clearLaneCountersOwn tag [b] (taken tag rest s) = ⟨taken tag rest t, some ⟨status, results⟩⟩) :
    Answers .clearLaneCounters s tag rest status results t :=
  take_answers (o := .clearLaneCounters) takes rfl (.inl rfl) ran

theorem readLaneOwn_unnamed {o : List Byte} (unnamed : laneOf (byteAt o 0) = none) :
    readLaneOwn tag o s = badIndex (byteAt o 0) s := by
  simp only [readLaneOwn, unnamed]

theorem readLaneOwn_named {o : List Byte} (named : laneOf (byteAt o 0) = some l) :
    readLaneOwn tag o s = answerOk (readLaneResults l s) s := by
  simp only [readLaneOwn, named]

theorem clearLaneCountersOwn_unnamed {o : List Byte} (unnamed : laneOf (byteAt o 0) = none) :
    clearLaneCountersOwn tag o s = badIndex (byteAt o 0) s := by
  simp only [clearLaneCountersOwn, unnamed]

theorem clearLaneCountersOwn_named {o : List Byte} (named : laneOf (byteAt o 0) = some l) :
    clearLaneCountersOwn tag o s = answerOk (u8 l.val ++ s.lanes[l].counters.field)
      (s.setLane l { s.lanes[l] with counters := LaneCounters.zero }) := by
  unfold clearLaneCountersOwn
  rw [named]

/-- A field that the operation shows for some lanes only (R198). -/
theorem optional_ite (shown : Bool) (width : Nat) (bytes : List Byte) :
    optional width (if shown = true then some bytes else none) =
      if shown = true then 1#8 :: bytes else 0#8 :: List.replicate width 0#8 := by
  cases shown <;> rfl

theorem readLaneResults_eq (l : LaneId) (s : State) : readLaneResults l s =
    u8 l.val ++ u8 (enableCode s.lanes[l].enabled) ++ u8 s.lanes[l].settings.bitRate.code ++
      u8 s.lanes[l].settings.threshold ++ u8 s.lanes[l].settings.holdoff ++
      u8 s.lanes[l].settings.unmatched.code ++ u8 s.pairs[pairOf l].mode.code ++
      (if s.joined l then [1#8, if isEven l then 0#8 else 1#8] else [0#8, 0#8]) ++
      u8 s.lanes[l].state.code ++ yesNo s.lanes[l].holdoffElapsed ++ u8 s.lanes[l].errors ++
      timerField s.deviceTime s.lanes[l].holdoffTimer ++ u8 s.lanes[l].fifo.length ++
      s.lanes[l].counters.field ++
      (if s.transmitting l then
        1#8 :: u8 s.pairs[pairOf l].relay.state.code ++ 1#8 :: u8 s.pairs[pairOf l].relay.queue.length ++
          1#8 :: u8 s.pairs[pairOf l].relay.reserved
      else [0#8, 0#8, 0#8, 0#8, 0#8, 0#8]) := by
  have direction : optional 1 (if s.joined l then some (u8 (if isEven l then 0 else 1)) else none) =
      if s.joined l then [1#8, if isEven l then 0#8 else 1#8] else [0#8, 0#8] := by
    rw [optional_ite]
    cases isEven l <;> rfl
  have relay : relayFields l s =
      if s.transmitting l then
        1#8 :: u8 s.pairs[pairOf l].relay.state.code ++ 1#8 :: u8 s.pairs[pairOf l].relay.queue.length ++
          1#8 :: u8 s.pairs[pairOf l].relay.reserved
      else [0#8, 0#8, 0#8, 0#8, 0#8, 0#8] := by
    unfold relayFields
    dsimp only
    rw [optional_ite, optional_ite, optional_ite]
    cases s.transmitting l <;> rfl
  unfold readLaneResults laneSettingsField
  dsimp only
  rw [direction, relay]
  simp only [List.append_assoc]

/-! ## SET_PAIR (R125) -/

theorem setPair_answers {t : State} {status : Status} {results : List Byte} {b0 b1 : Byte}
    (takes : Takes s tag 18#8 [b0, b1] rest)
    (ran : setPairOwn tag [b0, b1] (taken tag rest s) = ⟨taken tag rest t, some ⟨status, results⟩⟩) :
    Answers .setPair s tag rest status results t := take_answers (o := .setPair) takes rfl (.inl rfl) ran

theorem firstEnabled_eq (k : PairId) (s : State) : firstEnabled k s =
    if ¬s.lanes[evenLane k].state = .disabled then some (evenLane k)
    else if ¬s.lanes[oddLane k].state = .disabled then some (oddLane k)
    else none := by
  simp only [firstEnabled, List.find?_cons, List.find?_nil, ← Lane.enabled_iff]
  cases s.lanes[evenLane k].enabled <;> cases s.lanes[oddLane k].enabled <;> rfl

theorem setPairOwn_moded {o : List Byte} {mode : PairMode} (named : pairNamed (byteAt o 0) = some k)
    (moded : enumOf pairModes (byteAt o 1) = some mode) : setPairOwn tag o s =
      match firstEnabled k s with
      | some l => refuse .laneActive (u8 l.val) s
      | none => answerOk (u8 k.val ++ u8 mode.code) (s.setPair k { s.pairs[k] with mode := mode }) := by
  unfold setPairOwn
  rw [named]
  dsimp only
  rw [moded] <;> rfl

/-- Settles O15: the named lane or pair is read, cleared or rewritten, and each refusal is the first that holds. -/
theorem laneReadsCounterClearAndPairMode : Obligations.LaneReadsCounterClearAndPairMode := by
  refine ⟨fun s tag b rest => ⟨fun unnamed => ⟨fun takes => ?_, fun takes => ?_⟩,
    fun l named => ⟨fun takes => ?_, fun takes => ?_⟩⟩, fun s tag b0 b1 rest takes => ⟨fun unnamed => ?_,
    fun named moded => ?_, fun k mode named moded => ⟨fun even => ?_, fun even odd => ?_, fun even odd => ?_⟩⟩⟩
  · exact readLane_answers takes (readLaneOwn_unnamed (laneOf_none unnamed))
  · exact clearLaneCounters_answers takes (clearLaneCountersOwn_unnamed (laneOf_none unnamed))
  · rw [← u8_of_toNat named, ← readLaneResults_eq]
    exact readLane_answers takes (readLaneOwn_named (laneOf_some named))
  · rw [← u8_of_toNat named]
    refine clearLaneCounters_answers takes ?_
    rw [clearLaneCountersOwn_named (o := [b]) (laneOf_some named)]
    rfl
  · apply setPair_answers takes
    simp only [setPairOwn, byteAt, List.getD_cons_zero, pairNamed_none unnamed]
    rfl
  · apply setPair_answers takes
    have unmoded : enumOf pairModes b1 = none := enumOf_none moded
    simp only [setPairOwn, byteAt, List.getD_cons_zero, pairNamed_some (k := ⟨b0.toNat, named⟩) rfl,
      List.getD_cons_succ, unmoded]
    rfl
  all_goals
    apply setPair_answers takes
    rw [setPairOwn_moded (o := [b0, b1]) (pairNamed_some named) (moded ▸ enumOf_pairMode mode), firstEnabled_eq,
      taken_lanes]
  · rw [if_pos even]
    rfl
  · rw [if_neg (not_not.mpr even), if_pos odd]
    rfl
  · rw [if_neg (not_not.mpr even), if_neg (not_not.mpr odd), u8_of_toNat named, moded]
    rfl

/-! ## Relay transmission (R140, R143, R145) -/

theorem exec_relay (k : PairId) (running : s.inReset = false) :
    exec (.relayTransmissionStart k) s = .next (relayTransmissionStartEvent k s) ∧
      exec (.relayTransmissionCompletion k) s = .next (relayTransmissionCompletionEvent k s) ∧
      exec (.gapEnd k) s = .next (gapEndEvent k s) :=
  ⟨running_released s _ running, running_released s _ running, running_released s _ running⟩

theorem relayFrame_span (f : RelayFrame) :
    f.span = (3#3 ++ BitVec.ofNat 5 f.node.val) :: BitVec.ofNat 8 f.payload.length :: f.payload := by
  have header : BitVec.ofNat 8 (3 * 32 + f.node.val) = headerChar 3#3 f.node :=
    byte_of_toNat (headerChar_toNat 3#3 f.node)
  show BitVec.ofNat 8 (3 * 32 + f.node.val) :: BitVec.ofNat 8 f.payload.length :: f.payload = _
  rw [header]
  rfl

theorem relayTransmissionStartEvent_starts {f : RelayFrame} {queue : List RelayFrame}
    (joined : s.pairs[k].mode = .joined) (enabled : s.lanes[evenLane k].state ≠ .disabled)
    (idle : s.pairs[k].relay.state = .idle) (waits : s.pairs[k].relay.queue = f :: queue) :
    relayTransmissionStartEvent k s =
      { s.setPair k { s.pairs[k] with relay := ⟨.sending, some f, queue⟩ } with
        cuts := { s.cuts with relays := rowSet s.cuts.relays k none } } := by
  have works : s.relayWorks k = true := by
    rw [State.relayWorks, joined, (Lane.enabled_iff _).mpr enabled]
    rfl
  unfold relayTransmissionStartEvent
  dsimp only
  rw [works, idle, waits]

theorem relayTransmissionCompletionEvent_completes {f : RelayFrame} (state : s.pairs[k].relay.state = .sending)
    (sent : s.pairs[k].relay.sending = some f) : relayTransmissionCompletionEvent k s =
      relayOutcome k .sent f
        (s.setPair k { s.pairs[k] with relay := { s.pairs[k].relay with state := .gap, sending := none } }) := by
  unfold relayTransmissionCompletionEvent
  dsimp only
  split
  · next g _ sending =>
    rw [sent] at sending
    cases sending
    rfl
  · next other => exact absurd sent (other f state)

/-- A pair's line with no frame in transmission (R204). -/
theorem ltx_idle (idle : s.pairs[k].relay.sending = none) : s.ltx k =
    match s.pairs[k].mode with
    | .split => []
    | .joined => CutCharacter.chars s.cuts.relays[k] := by
  rw [State.ltx, idle] <;> rfl

/-- Settles O17: by the transmitter states and the confirmation of the frame. -/
theorem relayTransmissionRunsStartCompletionGap : Obligations.RelayTransmissionRunsStartCompletionGap := by
  intro k s running
  obtain ⟨start, completion, gap⟩ := exec_relay k running
  rw [completion, gap]
  refine ⟨fun f queue joined enabled idle waits => ?_, fun f state sent => ?_, fun inGap => ?_,
    fun idle => ⟨fun silent => ?_, fun c joined cut => ?_⟩⟩
  · refine ⟨_, start, relayTransmissionStartEvent_starts joined enabled idle waits, ?_, ?_, relayFrame_span f⟩
    all_goals
      rw [relayTransmissionStartEvent_starts joined enabled idle waits]
    · unfold State.lde
      dsimp only
      rw [State.setPair_pairs, rowSet_self, joined]
      rfl
    · unfold State.ltx
      dsimp only
      rw [State.setPair_pairs, rowSet_self]
      rfl
  · rw [relayTransmissionCompletionEvent_completes state sent, relayOutcome_eq]
    have count : s.out.absorbed + BitVec.ofNat 32 (if f.confirm = some .cancelled then 1 else 0) =
        if f.confirm = some .cancelled then s.out.absorbed + 1 else s.out.absorbed := by
      split
      · rfl
      · exact BitVec.add_zero _
    rw [← count]
    rfl
  · rw [gapEndEvent, inGap]
  · rw [ltx_idle idle]
    rcases silent with split | uncut
    · rw [split]
    · rw [uncut]
      cases s.pairs[k].mode <;> rfl
  · rw [ltx_idle idle, joined, cut]
    rfl

/-! ## The frame taken (R21, R22) -/

/-- How far a lane stands behind the pointer: 0 for the lane next in turn. -/
def State.turnOf (s : State) (l : LaneId) : Nat := (l.val + 7 - s.servicePointer.val) % 8

/-- The lane at a place of the turn. -/
def State.laneInTurn (s : State) (d : Nat) : LaneId := Fin.ofNat 8 (s.servicePointer.val + 1 + d)

theorem turnOf_lt (s : State) (l : LaneId) : s.turnOf l < 8 := Nat.mod_lt _ (by decide)

theorem laneInTurn_turnOf (s : State) (l : LaneId) : s.laneInTurn (s.turnOf l) = l := by
  have := l.isLt
  have := s.servicePointer.isLt
  refine Fin.ext ?_
  rw [State.laneInTurn, State.turnOf, Fin.val_ofNat]
  omega

theorem turnOf_laneInTurn (s : State) {d : Nat} (small : d < 8) : s.turnOf (s.laneInTurn d) = d := by
  have := s.servicePointer.isLt
  rw [State.laneInTurn, State.turnOf, Fin.val_ofNat]
  omega

/-- A lane as the Classifier may serve it: while its FIFO holds a frame. -/
def State.servable (s : State) (l : LaneId) : Option LaneId := if s.lanes[l].fifo.isEmpty then none else some l

theorem servable_none (s : State) (l : LaneId) : s.servable l = none ↔ s.lanes[l].fifo = [] := by
  unfold State.servable
  split
  · next empty => exact iff_of_true rfl (List.isEmpty_iff.mp empty)
  · next waits => exact iff_of_false (Option.some_ne_none _) (mt List.isEmpty_iff.mpr waits)

theorem servable_some {s : State} {l j : LaneId} (h : s.servable l = some j) : l = j ∧ s.lanes[l].fifo ≠ [] := by
  have waits : s.lanes[l].fifo ≠ [] := fun empty => by rw [(servable_none s l).mpr empty] at h; cases h
  rw [State.servable, if_neg (mt List.isEmpty_iff.mp waits)] at h
  exact ⟨Option.some_injective _ h, waits⟩

theorem nextLane_eq (s : State) : nextLane s = (List.range 8).findSome? fun d => s.servable (s.laneInTurn d) := rfl

theorem nextLane_none : nextLane s = none ↔ ∀ l : LaneId, s.lanes[l].fifo = [] := by
  simp only [nextLane_eq, List.findSome?_eq_none_iff, servable_none, List.mem_range]
  constructor
  · intro none l
    have here := none _ (turnOf_lt s l)
    rwa [laneInTurn_turnOf] at here
  · exact fun empty d _ => empty _

/-- The lane served next holds a frame, and every lane nearer in the turn holds none. -/
theorem nextLane_some (next : nextLane s = some l) :
    s.lanes[l].fifo ≠ [] ∧ ∀ j : LaneId, s.turnOf j < s.turnOf l → s.lanes[j].fifo = [] := by
  rw [nextLane_eq] at next
  obtain ⟨nearer, d, farther, split, found, none⟩ := List.findSome?_eq_some_iff.mp next
  obtain ⟨rfl, waits⟩ := servable_some found
  have small : d < 8 := List.mem_range.mp (by rw [split]; simp)
  refine ⟨waits, fun j near => ?_⟩
  rw [turnOf_laneInTurn s small] at near
  have ordered : List.Pairwise (· < ·) (nearer ++ d :: farther) := split ▸ List.pairwise_lt_range
  have member : s.turnOf j ∈ nearer ++ d :: farther := split ▸ List.mem_range.mpr (turnOf_lt s j)
  have later := (List.pairwise_cons.mp (List.pairwise_append.mp ordered).2.1).1
  rw [List.mem_append, List.mem_cons] at member
  rcases member with before | here | after
  · have empty := (servable_none s _).mp (none _ before)
    rwa [laneInTurn_turnOf] at empty
  · omega
  · exact absurd (later _ after) (by omega)

/-- The first lane in turn that holds a frame is served next. -/
theorem nextLane_first (waits : s.lanes[l].fifo ≠ [])
    (nearest : ∀ j : LaneId, s.turnOf j < s.turnOf l → s.lanes[j].fifo = []) : nextLane s = some l := by
  cases next : nextLane s with
  | none => exact absurd (nextLane_none.mp next l) waits
  | some j =>
    obtain ⟨holds, nearer⟩ := nextLane_some next
    have apart : ¬s.turnOf l < s.turnOf j := fun near => waits (nearer l near)
    have apart' : ¬s.turnOf j < s.turnOf l := fun near => holds (nearest j near)
    have same : s.turnOf j = s.turnOf l := by omega
    rw [← laneInTurn_turnOf s j, same, laneInTurn_turnOf]

/-- The samples of a frame are processed by a fold over their places. -/
theorem processSamples_eq_foldl (l : LaneId) (f : Frame) (xs : List Reading) (i : Nat) (u : State) :
    processSamples l f i xs u = (xs.zipIdx i).foldl (fun u x => processSample l f x.2 x.1 u) u := by
  induction xs generalizing i u with
  | nil => rfl
  | cons x xs ih =>
    rw [processSamples, ih, List.zipIdx_cons, List.foldl_cons]

/-- Settles O18: by the search of the round robin. -/
theorem frameTakenServesTheNextLaneInTurn : Obligations.FrameTakenServesTheNextLaneInTurn := by
  intro s running
  rw [show exec .frameTaken s = .next (frameTakenEvent s) from running_released s _ running]
  refine ⟨fun l f queue waits nearest => ?_, fun empty => ?_⟩
  · have next : nextLane s = some l := nextLane_first (by rw [waits]; exact List.cons_ne_nil _ _) nearest
    rw [frameTakenEvent, next]
    dsimp only
    rw [waits]
    dsimp only
    rw [processSamples_eq_foldl]
  · rw [frameTakenEvent, nextLane_none.mpr empty]

end Sys2Proof.Machine
end

section
/-! PROOF. The Classifier: unmatched samples and offers (O20), the record of a matched sample (O22), the stale expiry
(O24). -/

namespace Sys2Proof.Machine

-- One proof after the other: many at once ask for too many threads.
set_option Elab.async false

variable {s : State} {p : PointId} {e : PointEntry} {f : Frame} {x : Reading}

/-! ## Unmatched samples (R32, R33) -/

/-- A lookup leaves the lanes: the mark it may make changes none. -/
theorem lookup_lanes (key : Key) (s : State) : (lookup key s).1.lanes = s.lanes := by
  rcases lookup_cases key s with found | ⟨p, found⟩ | ⟨p, found⟩
  · rw [found]
  · rw [found]
    exact (faultPoint_changes s p).lanes (by simp)
  · rw [found]

theorem processSample_unmatched {u : State} {l : LaneId} {i : Nat} {key : Key}
    (named : key = ⟨l, f.node, Fin.ofNat 16 (f.startIndex.val + i)⟩) (missed : lookup key s = (u, none)) :
    processSample l f i x s = unmatchedSample key f x u := by
  subst named
  unfold processSample
  dsimp only
  rw [missed]

/-- Settles O20: the lookup leaves the lane to be counted, and the three outcomes of an offer. -/
theorem unmatchedSamplesAreCountedAndOffersResolved : Obligations.UnmatchedSamplesAreCountedAndOffersResolved := by
  refine ⟨fun s u l f i x key named missed counted count => ?_, fun m s => ⟨?_, fun active room => ?_, ?_⟩⟩
  · have lanes : u.lanes = s.lanes := by
      have kept := lookup_lanes key s
      rwa [missed] at kept
    have lane : key.lane = l := by rw [named]
    rw [← lanes, ← lane] at count ⊢
    rw [lane, processSample_unmatched named missed, ← lane, unmatchedSample, ← count]
    exact ⟨fun discard => by rw [discard], fun forward => by rw [forward]⟩
  · exact offerData_absorbed m
  · rw [offerData, if_neg (not_not.mpr active), if_pos (show s.out.dataQ.length < Config.dataCapacity from room)]
    rfl
  · exact offerData_lost m

/-! ## Matched samples (R34 to R37) -/

/-- The forwarding step changes at most the last forwarded value of its point's record (R43). -/
theorem forwardStage_records (changed : Bool) : ∃ last : Option Value,
    (forwardStage p e changed f x s).records = rowSet s.records p { s.records[p] with lastForwarded := last } := by
  have same : rowSet s.records p { s.records[p] with lastForwarded := s.records[p].lastForwarded } = s.records :=
    rowSet_eta ..
  by_cases sent : forwards e changed s.records[p].lastForwarded x = true
  · by_cases accepts : s.dataAccepts = true
    · rw [forwardStage_accepted sent accepts]
      exact ⟨some x.value, rfl⟩
    · rw [forwardStage_refused sent accepts]
      exact ⟨_, ((offerData_changes s _).records (by simp)).trans same.symm⟩
  · rw [forwardStage_unsent sent]
    exact ⟨_, same.symm⟩

theorem groupStage_records (p : PointId) (s : State) : (groupStage p s).records = s.records := by
  rw [← afterGroups_all]
  exact (afterGroups_shows p s (Nat.le_refl 16)).records

/-- The record of a matched sample that is no duplicate: the stages' record, but for the last forwarded value. -/
theorem matchedSample_records (fresh : s.records[p].lastSequence ≠ some f.sequence) : ∃ last : Option Value,
    (matchedSample p e f x s).records =
      rowSet s.records p
        { conditionStage e f.arrival (staleStart s (s.activePoint p)) x (sequenceStage f.sequence s.records[p]) with
          lastForwarded := last } := by
  unfold matchedSample
  dsimp only
  rw [if_neg (show ¬isDuplicate s.records[p] f.sequence = true from mt beq_iff_eq.mp fresh), groupStage_records]
  obtain ⟨last, stored⟩ := forwardStage_records (p := p) (e := e) (f := f) (x := x)
    (s := if raisesOnEntry e s.records[p].condition
        (conditionStage e f.arrival (staleStart s (s.activePoint p)) x
          (sequenceStage f.sequence s.records[p])).condition then
        raiseInto e.slot (.point p) (s.setRecord p
          (conditionStage e f.arrival (staleStart s (s.activePoint p)) x (sequenceStage f.sequence s.records[p])))
      else s.setRecord p
        (conditionStage e f.arrival (staleStart s (s.activePoint p)) x (sequenceStage f.sequence s.records[p])))
    ((conditionStage e f.arrival (staleStart s (s.activePoint p)) x
      (sequenceStage f.sequence s.records[p])).condition != s.records[p].condition)
  have raised (c : Bool) (u : State) : (if c then raiseInto e.slot (.point p) u else u).records = u.records := by
    split
    · exact (raiseInto_changes u _ _).records (by simp)
    · rfl
  rw [stored, raised, State.setRecord_records, rowSet_self, rowSet_twice]
  exact ⟨last, rfl⟩

/-- A gap is counted when the sequence is not the one after the last (R34). -/
theorem isGap_eq {r : RuntimeRecord} {q : Sequence} (fresh : r.lastSequence ≠ some q) :
    (if isGap r q = true then r.gaps + 1 else r.gaps) =
      match r.lastSequence with
      | none => r.gaps
      | some last => if q = last + 1 then r.gaps else r.gaps + 1 := by
  cases h : r.lastSequence with
  | none => simp [isGap, h]
  | some last =>
    have other : q ≠ last := fun same => fresh (by rw [h, same])
    simp [isGap, h, other]

/-- The stale timer that a restart gives a condition, or the one that runs (R27). -/
theorem staleStart_or (s : State) (p : PointId) (c : Condition) (timer : Option Timer) :
    (staleStart s (s.activePoint p) c).or timer =
      if pointUsable (s.activePoint p) ∧ 0 < (s.activePoint p).entry.staleLimit ∧
          s.listening (s.activePoint p).entry.lane ∧ c ≠ .stale then
        some ⟨s.deviceTime, BitVec.ofNat 32 ((s.activePoint p).entry.staleLimit * 100)⟩
      else timer := by
  unfold staleStart
  split
  · rfl
  · rfl

/-- Settles O22: the stages' record, by the quality of the sample. -/
theorem matchedSampleUpdatesItsRecord : Obligations.MatchedSampleUpdatesItsRecord := by
  intro s p e f x entry
  refine ⟨fun duplicate => ?_, fun fresh new hnew => ?_⟩
  · unfold matchedSample
    dsimp only
    rw [if_pos (show isDuplicate s.records[p] f.sequence = true from beq_iff_eq.mpr duplicate)]
  · obtain ⟨last, records⟩ := matchedSample_records (e := e) (x := x) fresh
    rw [records, rowSet_self] at hnew
    subst hnew
    have gaps := isGap_eq fresh
    refine ⟨fun q other => by rw [records, rowSet_other _ _ other], ?_⟩
    unfold conditionStage
    cases held : x.held with
    | true =>
      refine ⟨rfl, rfl, rfl, gaps, rfl, rfl, rfl, ?_⟩
      simp only [Bool.true_eq_false, false_and, if_false]
      rfl
    | false =>
      cases fault : x.fault with
      | true =>
        refine ⟨rfl, rfl, rfl, gaps, rfl, rfl, rfl, (staleStart_or s p .faulted s.records[p].timer).trans ?_⟩
        rw [entry]
        simp only [true_and]
        rfl
      | false =>
        refine ⟨rfl, rfl, rfl, gaps, rfl, rfl, rfl,
          (staleStart_or s p (evaluate e s.records[p].condition s.records[p].vote x.value).1 s.records[p].timer).trans ?_⟩
        rw [entry]
        simp only [true_and]
        rfl

/-! ## The stale expiry (R46) -/

/-- Settles O24: by the cases of the expiry. -/
theorem staleExpiryMakesThePointStale : Obligations.StaleExpiryMakesThePointStale := by
  intro s p running
  rw [show exec (.staleExpiry p) s = .next (staleExpiryEvent p s) from running_released s _ running]
  refine ⟨fun early => ?_, fun due moving u stale => ?_⟩
  · rw [staleExpiryEvent, early]
    rfl
  · subst stale
    unfold staleExpiryEvent
    dsimp only
    rw [if_pos due]
    refine ⟨fun unselected => ?_, fun selected => ?_⟩
    · rw [if_neg (fun h => Bool.false_ne_true (unselected.symm.trans h.2))]
    · rw [if_pos ⟨moving, selected⟩]

end Sys2Proof.Machine
end

section
/-! PROOF. Alert slots: raises and the wake they begin (O25), SET_SLOT, CLEAR_SLOT and SET_ROUTE (O26), READ_SLOT and
READ_STACK (O27). -/

namespace Sys2Proof.Machine

-- One proof after the other: many at once ask for too many threads.
set_option Elab.async false

variable {s : State} {tag : Tag} {rest : List (List Byte)} {k : SlotId}

/-! ## Raises (R52, R56, R165, R167) -/

/-- The slot after a raise is fixed by the three cases of R52. -/
theorem Slot.raise_eq {sl after : Slot} {c : Cause} (kept : c ∈ sl.causes → after = sl)
    (appended : c ∉ sl.causes → sl.causes.length < 8 → after = { sl with causes := sl.causes ++ [c] })
    (overflowed : c ∉ sl.causes → 8 ≤ sl.causes.length → after = { sl with overflow := true }) :
    sl.raise c = after := by
  rcases sl.raise_cases c with ⟨member, e⟩ | ⟨absent, room, e⟩ | ⟨absent, full, e⟩
  · rw [e, kept member]
  · rw [e, appended absent room]
  · rw [e, overflowed absent full]

/-- A raise into a slot changes no queue. -/
theorem raiseInto_frame_some (k : SlotId) (c : Cause) (s : State) :
    (raiseInto (some k) c s).slots = rowSet s.slots k (s.slots[k].raise c) ∧
    raiseInto (some k) c s = { s with
      slots := (raiseInto (some k) c s).slots
      link := (raiseInto (some k) c s).link
      out := (raiseInto (some k) c s).out } ∧
    (raiseInto (some k) c s).out.alertQ = s.out.alertQ ∧ (raiseInto (some k) c s).out.replyQ = s.out.replyQ ∧
      (raiseInto (some k) c s).out.dataQ = s.out.dataQ := by
  have slots : (raiseInto (some k) c s).slots = rowSet s.slots k (s.slots[k].raise c) := by
    obtain ⟨link, out, e, -⟩ := wakeCheck_frame (s.setSlot k (s.slots[k].raise c))
    rw [raiseInto_some, e]
    rfl
  obtain ⟨changed, link, out, e, -, -, queues, -⟩ := raiseInto_frame s (some k) c
  refine ⟨slots, ?_, ?_⟩
  · rw [e]
  · rw [e]
    dsimp only
    rw [queues]
    exact ⟨rfl, rfl, rfl⟩

/-- The best pending level is the level of any selectable slot that none is below (R87). -/
theorem bestPendingLevel_of_best {u : State} {best : SlotId} (here : u.selectable best)
    (least : ∀ j, u.selectable j → u.slots[best].level ≤ u.slots[j].level) :
    u.bestPendingLevel = u.slots[best].level.val := by
  unfold State.bestPendingLevel
  cases found : bestSlot u.stack u.slots with
  | none => exact absurd here ((bestSlot_none u).mp found best)
  | some j =>
    obtain ⟨selectable, lowest⟩ := bestSlot_found u found
    have below := least j selectable
    have above : u.slots[j].level ≤ u.slots[best].level := by
      rcases lowest best here with lower | ⟨same, -⟩
      · exact lower.le
      · exact same.le
    exact congrArg Fin.val (le_antisymm above below)

/-- Settles O25: the slot's three cases, the frame of a raise, and the wake check that ends it. -/
theorem raiseKeepsAppendsOrOverflowsAndWakes : Obligations.RaiseKeepsAppendsOrOverflowsAndWakes := by
  refine ⟨fun s c => ⟨rfl, fun d => rfl, fun k after kept appended overflowed => ?_⟩,
    fun s u k c dormant idle raised => ⟨fun none => ?_, fun best here least => ?_⟩⟩
  · rw [← Slot.raise_eq kept appended overflowed]
    refine ⟨fun awake => ?_, _, rfl, raiseInto_frame_some k c s⟩
    rw [raiseInto_some, wakeCheck_awake (s.setSlot k _) awake]
  · rw [raiseInto_some, ← raised, wakeCheck, if_neg]
    rintro ⟨-, demand⟩
    obtain ⟨j, selectable⟩ := (wakeDemand_iff u).mp demand
    exact none j selectable
  · have link : u.link = s.link := by rw [raised]; rfl
    have time : u.deviceTime = s.deviceTime := by rw [raised]; rfl
    have out : u.out = s.out := by rw [raised]; rfl
    rw [raiseInto_some, ← raised]
    obtain ⟨link', out', e, -, woken⟩ := wakeCheck_frame u
    obtain ⟨hlink, m, hm, hout⟩ := woken best (by rw [link, dormant]) here
    rw [out, idle] at hout
    dsimp only at hout
    rw [e, hlink, hout, hm, bestPendingLevel_of_best here least, wakeTimerStart, link, time]
    rfl

/-! ## SET_SLOT, CLEAR_SLOT and SET_ROUTE (R60 to R62) -/

theorem setSlot_answers {t : State} {status : Status} {results : List Byte} {b0 b1 b2 : Byte}
    (takes : Takes s tag 9#8 [b0, b1, b2] rest)
    (ran : setSlotOwn tag [b0, b1, b2] (taken tag rest s) = ⟨taken tag rest t, some ⟨status, results⟩⟩) :
    Answers .setSlot s tag rest status results t := take_answers (o := .setSlot) takes rfl (.inl rfl) ran

theorem clearSlot_answers {t : State} {status : Status} {results : List Byte} {b : Byte}
    (takes : Takes s tag 11#8 [b] rest)
    (ran : clearSlotOwn tag [b] (taken tag rest s) = ⟨taken tag rest t, some ⟨status, results⟩⟩) :
    Answers .clearSlot s tag rest status results t := take_answers (o := .clearSlot) takes rfl (.inl rfl) ran

theorem setRoute_answers {t : State} {status : Status} {results : List Byte} {b0 b1 : Byte}
    (takes : Takes s tag 12#8 [b0, b1] rest)
    (ran : setRouteOwn tag [b0, b1] (taken tag rest s) = ⟨taken tag rest t, some ⟨status, results⟩⟩) :
    Answers .setRoute s tag rest status results t := take_answers (o := .setRoute) takes rfl (.inl rfl) ran

theorem yesNo_pending (sl : Slot) :
    yesNo sl.pending = [if sl.causes ≠ [] ∨ sl.overflow = true then 1#8 else 0#8] := by
  obtain ⟨level, mask, causes, overflow⟩ := sl
  cases causes <;> cases overflow <;> simp [Slot.pending, yesNo, u8]

theorem yesNo_eq (b : Bool) : yesNo b = [if b = true then 1#8 else 0#8] := by cases b <;> rfl

theorem setSlotOwn_named {o : List Byte} (named : slotOf (byteAt o 0) = some k) : setSlotOwn tag o s =
    if h : numAt o 1 < 4 then
      match enumOf masks (byteAt o 2) with
      | none => badValue 3 s
      | some mask =>
        answerOk
          (u8 k.val ++ u8 (numAt o 1) ++ u8 mask.code ++
            yesNo (Slot.pending { s.slots[k] with level := ⟨numAt o 1, h⟩, mask := mask }))
          (s.setSlot k { s.slots[k] with level := ⟨numAt o 1, h⟩, mask := mask })
    else badValue 2 s := by
  unfold setSlotOwn
  simp only [named] <;> rfl

theorem setRouteOwn_named {o : List Byte} {d : DeviceCause} (named : enumOf deviceCauses (byteAt o 0) = some d) :
    setRouteOwn tag o s =
      if slotByteOk (byteAt o 1) then
        answerOk (u8 d.code.val ++ slotOrNone (slotOf (byteAt o 1)) ++ slotOrNone s.routing[d.code])
          { s with routing := rowSet s.routing d.code (slotOf (byteAt o 1)) }
      else badValue 2 s := by
  unfold setRouteOwn
  rw [named]

/-- The byte of a slot or NONE names it, and shows it again (R198). -/
theorem slotByte_route {b : Byte} {route : Option SlotId}
    (named : b.toNat = match route with | none => 255 | some k => k.val) :
    slotByteOk b = true ∧ slotOf b = route ∧ slotOrNone route = [b] := by
  cases route with
  | none =>
    have last : b = 255#8 := (byte_of_toNat named).symm
    exact ⟨(slotByteOk_iff b).mpr (.inr named), slotOf_none (by rw [named]; decide), by rw [last]; rfl⟩
  | some k =>
    have small : b.toNat < 32 := named ▸ k.isLt
    exact ⟨(slotByteOk_iff b).mpr (.inl small), slotOf_some named, u8_of_toNat named⟩

theorem slotOrNone_eq (route : Option SlotId) :
    slotOrNone route = [match route with | none => 255#8 | some k => BitVec.ofNat 8 k.val] := by
  cases route <;> rfl

theorem mask_code_of_toNat {b : Byte} {mask : Mask} (masked : b = BitVec.ofNat 8 mask.code) : u8 mask.code = [b] := by
  rw [masked]
  rfl

/-- Settles O26: request by request, along the checks of each. -/
theorem slotWritesReplaceClearAndRoute : Obligations.SlotWritesReplaceClearAndRoute := by
  refine ⟨fun s tag b0 b1 b2 rest takes => ⟨fun unnamed => ?_, fun named high => ?_, fun named level unmasked => ?_,
    fun k level mask named levelled masked => ?_⟩, fun s tag b rest takes => ⟨fun unnamed => ?_, fun k named => ?_⟩,
    fun s tag b0 b1 rest takes => ⟨fun unnamed => ?_, fun named unslotted notNone => ?_,
      fun d route named routed => ?_⟩⟩
  · apply setSlot_answers takes
    simp only [setSlotOwn, byteAt, List.getD_cons_zero, slotOf_none unnamed]
    rfl
  · apply setSlot_answers takes
    rw [setSlotOwn_named (o := [b0, b1, b2]) (slotOf_some (k := ⟨b0.toNat, named⟩) rfl)]
    exact dif_neg (Nat.not_lt.mpr high)
  · apply setSlot_answers takes
    rw [setSlotOwn_named (o := [b0, b1, b2]) (slotOf_some (k := ⟨b0.toNat, named⟩) rfl)]
    refine (dif_pos level).trans ?_
    have bad : enumOf masks b2 = none := enumOf_none unmasked
    simp only [byteAt, List.getD_cons_succ, List.getD_cons_zero, bad]
    rfl
  · apply setSlot_answers takes
    have low : b1.toNat < 4 := levelled ▸ level.isLt
    have good : enumOf masks b2 = some mask := masked ▸ enumOf_mask mask
    have same : (⟨b1.toNat, low⟩ : Level) = level := Fin.ext levelled
    rw [setSlotOwn_named (o := [b0, b1, b2]) (slotOf_some named)]
    refine (dif_pos low).trans ?_
    simp only [byteAt, List.getD_cons_succ, List.getD_cons_zero, good]
    rw [u8_of_toNat named, mask_code_of_toNat masked, yesNo_pending, u8_of_toNat (n := numAt [b0, b1, b2] 1) (b := b1) rfl]
    subst same
    rfl
  · apply clearSlot_answers takes
    simp only [clearSlotOwn, byteAt, List.getD_cons_zero, slotOf_none unnamed]
    rfl
  · apply clearSlot_answers takes
    simp only [clearSlotOwn, byteAt, List.getD_cons_zero, slotOf_some named, u8_of_toNat named, yesNo_eq]
    rfl
  · apply setRoute_answers takes
    have bad : enumOf deviceCauses b0 = none := enumOf_none unnamed
    simp only [setRouteOwn, byteAt, List.getD_cons_zero, bad]
    rfl
  · apply setRoute_answers takes
    have isCause : (enumOf deviceCauses b0).isSome = true := by
      rw [enumOf_isSome]
      exact decide_eq_true named
    obtain ⟨d, cause⟩ := Option.isSome_iff_exists.mp isCause
    rw [setRouteOwn_named (o := [b0, b1]) cause]
    refine if_neg fun ok => ?_
    rcases (slotByteOk_iff b1).mp ok with small | none
    · omega
    · exact notNone none
  · apply setRoute_answers takes
    have cause : enumOf deviceCauses b0 = some d := byte_of_toNat named ▸ enumOf_deviceCause d
    obtain ⟨ok, slot, shown⟩ := slotByte_route routed
    rw [setRouteOwn_named (o := [b0, b1]) cause]
    refine (if_pos ok).trans ?_
    show answerOk (u8 d.code.val ++ slotOrNone (slotOf b1) ++ slotOrNone s.routing[d.code]) _ = _
    rw [u8_of_toNat named, slot, shown, slotOrNone_eq]
    show answerOk _ (taken tag rest { s with routing := rowSet s.routing d.code (slotOf b1) }) = _
    rw [slot]
    rfl

/-! ## READ_SLOT and READ_STACK (R63, R88) -/

theorem readSlot_answers {t : State} {status : Status} {results : List Byte} {b : Byte}
    (takes : Takes s tag 10#8 [b] rest)
    (ran : readSlotOwn tag [b] (taken tag rest s) = ⟨taken tag rest t, some ⟨status, results⟩⟩) :
    Answers .readSlot s tag rest status results t := take_answers (o := .readSlot) takes rfl (.inl rfl) ran

/-- The record in service of a slot, present or absent (R63). -/
theorem recordOfSlot_field (stack : List InService) (k : SlotId) :
    optional 1 ((recordOfSlot stack k).map (fun r => [r.number])) =
      match stack.find? (fun r => r.slot == k) with
      | none => [0#8, 0#8]
      | some r => [1#8, r.number] := by
  unfold recordOfSlot
  cases stack.find? (fun r => r.slot == k) <;> rfl

/-- Settles O27: by the layout of the two replies. -/
theorem slotAndStackReadsShowTheState : Obligations.SlotAndStackReadsShowTheState := by
  intro s tag b rest
  refine ⟨fun takes unnamed => ?_, fun k takes named => ?_, fun takes => ?_⟩
  · apply readSlot_answers takes
    simp only [readSlotOwn, byteAt, List.getD_cons_zero, slotOf_none unnamed]
    rfl
  · apply readSlot_answers takes
    simp only [readSlotOwn, byteAt, List.getD_cons_zero, slotOf_some named]
    rw [← yesNo_pending, ← u8_of_toNat named]
    show answerOk (readSlotResults s k) (taken tag rest s) = _
    unfold readSlotResults causesField
    dsimp only
    rw [recordOfSlot_field]
    simp only [answerOk, List.append_assoc] <;> rfl
  · refine take_answers (o := .readStack) takes rfl (.inl rfl) ?_
    have field : InService.field s.deviceTime = fun r =>
        [r.number] ++ u8 r.slot.val ++ u8 r.level.val ++ u8 r.state.code ++ u8 r.repeatCount ++
          u32 r.captureTime ++ yesNo r.overflow ++ u8 r.causes.length ++ r.causes.flatMap Cause.field ++
          timerField s.deviceTime r.timer := by
      funext r
      simp only [InService.field, causesField, List.append_assoc]
    show answerOk (readStackResults s) (taken tag rest s) = _
    rw [readStackResults, field]
    rfl

end Sys2Proof.Machine
end

section
/-! PROOF. Alert delivery: the capture (O29), the acknowledgement timer's expiry and the owed repeats (O30), and
ALERT_DONE (O31). -/

namespace Sys2Proof.Machine

-- One proof after the other: many at once ask for too many threads.
set_option Elab.async false

variable {s : State} {tag : Tag} {rest : List (List Byte)}

/-! ## Capture (R57, R68, R71) -/

/-- Numbers counted upward from the counter stay apart below 256. -/
theorem counted_nodup (n : AlertNumber) {steps : Nat} (few : steps < 256) :
    ((List.range (steps + 1)).map fun d => n + BitVec.ofNat 8 d).Nodup := by
  refine List.Nodup.map_on (fun d inD c inC same => ?_) List.nodup_range
  have smallD := List.mem_range.mp inD
  have smallC := List.mem_range.mp inC
  have numbers := congrArg BitVec.toNat ((BitVec.add_right_inj n).mp same)
  rw [BitVec.toNat_ofNat, BitVec.toNat_ofNat] at numbers
  omega

/-- A stack does not hold more numbers than records. -/
theorem counted_escapes {stack : List InService} {n : AlertNumber} (few : stack.length < 256)
    (held : ∀ d, d < stack.length → ∃ r ∈ stack, r.number = n + BitVec.ofNat 8 d) :
    ∀ r ∈ stack, r.number ≠ n + BitVec.ofNat 8 stack.length := by
  intro r member same
  have within : ((List.range (stack.length + 1)).map fun d => n + BitVec.ofNat 8 d) ⊆ stack.map InService.number := by
    intro number counted
    obtain ⟨d, inside, rfl⟩ := List.mem_map.mp counted
    rcases Nat.lt_succ_iff_lt_or_eq.mp (List.mem_range.mp inside) with below | rfl
    · obtain ⟨x, inStack, e⟩ := held d below
      exact e ▸ List.mem_map_of_mem inStack
    · exact same ▸ List.mem_map_of_mem member
  have fits := (List.subperm_of_subset (counted_nodup n few) within).length_le
  simp only [List.length_map, List.length_range] at fits
  omega

/-- The number a capture takes: the first from the counter that no record holds (R68). -/
theorem nextNumber_spec (s : State) : ∃ skipped : Nat, skipped ≤ s.stack.length ∧
    (∀ d : Nat, d < skipped → ∃ r ∈ s.stack, r.number = s.alertCounter + BitVec.ofNat 8 d) ∧
    (s.stack.length < 256 → ∀ r ∈ s.stack, r.number ≠ s.alertCounter + BitVec.ofNat 8 skipped) ∧
    s.nextNumber = s.alertCounter + BitVec.ofNat 8 skipped := by
  obtain ⟨skipped, most, found, held, free⟩ := freeNumber_spec s.stack s.stack.length s.alertCounter
  refine ⟨skipped, most, held, fun few => ?_, found⟩
  rcases Nat.lt_or_eq_of_le most with stopped | rfl
  · exact free stopped
  · exact counted_escapes few held

/-- Settles O29: the selected slot is captured under the first free number. -/
theorem capturePushesTheChosenSlot : Obligations.CapturePushesTheChosenSlot := by
  intro s running
  rw [show exec .capture s = .next (captureEvent s) from running_released s _ running]
  refine ⟨fun none => ?_, fun k chosen => ?_⟩
  · rw [captureEvent, none]
  · obtain ⟨skipped, most, held, free, number⟩ := nextNumber_spec s
    refine ⟨skipped, most, held, free, ?_⟩
    rintro _ rfl
    rw [captureEvent, chosen, ← number]
    rfl

/-! ## The acknowledgement timer's expiry (R77 to R80) -/

theorem exec_acknowledgementTimerExpiry (number : AlertNumber) (running : s.inReset = false) :
    exec (.acknowledgementTimerExpiry number) s = .next (acknowledgementTimerExpiryEvent number s) :=
  running_released s _ running

theorem expiredRecord_none {number : AlertNumber}
    (early : ∀ r ∈ s.stack, r.number = number → r.state = .awaiting → timerDue s.deviceTime r.timer = false) :
    s.expiredRecord number = none := by
  refine List.find?_eq_none.mpr fun r member found => ?_
  simp only [Bool.and_eq_true, beq_iff_eq] at found
  obtain ⟨⟨named, awaiting⟩, due⟩ := found
  rw [early r member named awaiting] at due
  cases due

/-- In a nested stack the expired record is the one of its number. -/
theorem expiredRecord_split {below above : List InService} {r : InService} (split : s.stack = below ++ r :: above)
    (nested : stackNested s.stack) (awaiting : r.state = .awaiting) (due : timerDue s.deviceTime r.timer = true) :
    s.expiredRecord r.number = some r := by
  rw [split] at nested
  rw [State.expiredRecord, split, List.find?_append, List.find?_eq_none.mpr, Option.none_or,
    List.find?_cons_of_pos]
  · simp only [awaiting, due, beq_self_eq_true, Bool.and_self]
  · intro x member found
    simp only [Bool.and_eq_true, beq_iff_eq] at found
    exact nested.others.1 x member found.1.1

section expiry

variable {below above : List InService} {r : InService} (split : s.stack = below ++ r :: above)
  (nested : stackNested s.stack)

include split nested

theorem updateRecord_stack (change : InService → InService) :
    updateRecord r.number change s.stack = below ++ change r :: above := by
  rw [split] at nested ⊢
  exact updateRecord_split nested change

theorem repeatRecord_placed (room : owedCount s.stack < s.out.alertFree) : repeatRecord r s =
    placeAlert (r.again .queued).alert (s.setStack (below ++ r.again .queued :: above)) := by
  rw [repeatRecord, if_pos room, updateRecord_stack split nested fun r => r.again .queued]

theorem repeatRecord_owed (full : s.out.alertFree ≤ owedCount s.stack) : repeatRecord r s =
    s.setStack (below ++ r.again .repeatOwed :: above) := by
  rw [repeatRecord, if_neg (Nat.not_lt.mpr full), updateRecord_stack split nested fun r => r.again .repeatOwed]

theorem lapseRecord_eq : lapseRecord r s =
    raiseDevice .alertLapse
      (if s.out.alertFree > 0 then placeAlert (r.lapse s.deviceTime) (s.setStack (below ++ above))
      else (s.setStack (below ++ above)).setOut { s.out with lapseNotSent := s.out.lapseNotSent + 1 }) := by
  have removed : s.stack.filter (fun x => x.number != r.number) = below ++ above := by
    rw [split] at nested ⊢
    exact filter_number_split nested
  unfold lapseRecord
  dsimp only
  rw [removed]

end expiry

/-! ## Owed repeats (R78) -/

theorem owedRecord_none (s : State) : s.owedRecord = none ↔ ∀ r ∈ s.stack, r.state ≠ .repeatOwed := by
  simp only [State.owedRecord, List.find?_eq_none, List.mem_reverse, beq_iff_eq, ne_eq]

/-- The owed record nearest the top: none above it owes. -/
theorem owedRecord_split {below above : List InService} {r : InService} (split : s.stack = below ++ r :: above)
    (owes : r.state = .repeatOwed) (last : ∀ x ∈ above, x.state ≠ .repeatOwed) : s.owedRecord = some r := by
  rw [State.owedRecord, split, List.reverse_append, List.reverse_cons, List.append_assoc, List.find?_append,
    List.find?_eq_none.mpr, Option.none_or, List.singleton_append, List.find?_cons_of_pos]
  · exact beq_iff_eq.mpr owes
  · intro x member found
    exact last x (List.mem_reverse.mp member) (beq_iff_eq.mp found)

/-- Settles O30: the expired record repeats, owes or lapses; the owed record nearest the top takes a free entry. -/
theorem acknowledgementExpiryRepeatsOwesOrLapses : Obligations.AcknowledgementExpiryRepeatsOwesOrLapses := by
  refine ⟨fun s number running => ⟨fun early => ?_, ?_⟩, fun s running => ⟨?_, ?_⟩⟩
  · rw [exec_acknowledgementTimerExpiry number running, acknowledgementTimerExpiryEvent, expiredRecord_none early]
  · rintro below r above split nested rfl awaiting due
    rw [exec_acknowledgementTimerExpiry r.number running, acknowledgementTimerExpiryEvent,
      expiredRecord_split split nested awaiting due]
    dsimp only
    refine ⟨fun few room => ?_, fun few full => ?_, fun many room => ?_, fun many full => ?_⟩
    · rw [if_pos few, repeatRecord_placed split nested room]
      rfl
    · rw [if_pos few, repeatRecord_owed split nested full]
      rfl
    · rw [if_neg (Nat.not_lt.mpr many), lapseRecord_eq split nested, if_pos (Outbound.alertFree_pos_iff.mpr room)]
      rfl
    · rw [if_neg (Nat.not_lt.mpr many), lapseRecord_eq split nested,
        if_neg (mt Outbound.alertFree_pos_iff.mp (Nat.not_lt.mpr full))]
      rfl
  all_goals rw [show exec .owedRepeatPlacement s = .next (owedRepeatPlacementEvent s) from running_released s _ running]
  · rintro (full | none)
    · unfold owedRepeatPlacementEvent
      split
      · rfl
      · rw [if_neg (mt Outbound.alertFree_pos_iff.mp (Nat.not_lt.mpr full))]
    · rw [owedRepeatPlacementEvent, (owedRecord_none s).mpr none]
  · intro below r above split nested owes last room
    rw [owedRepeatPlacementEvent, owedRecord_split split owes last]
    dsimp only
    rw [if_pos (Outbound.alertFree_pos_iff.mpr room),
      updateRecord_stack split nested fun r => { r with state := .queued }]
    rfl

/-! ## ALERT_DONE (R81, R82) -/

theorem alertDone_answers {t : State} {status : Status} {results : List Byte} {number : Byte}
    (takes : Takes s tag 13#8 [number] rest)
    (ran : alertDoneOwn tag [number] (taken tag rest s) = ⟨taken tag rest t, some ⟨status, results⟩⟩) :
    Answers .alertDone s tag rest status results t := take_answers (o := .alertDone) takes rfl (.inl rfl) ran

/-- ALERT_DONE against the top of the stack. -/
theorem alertDoneOwn_top {number : AlertNumber} {top : InService} (here : s.stack.getLast? = some top) :
    alertDoneOwn tag [number] s =
      if top.number = number then answerOk (alertDoneResults top s) (popTop top s)
      else if s.stack.any (fun r => r.number == number) then
        refuse .notTop ([number, top.number] ++ u8 top.level.val) s
      else refuse .unknownAlert ([number] ++ optional 1 (some [top.number])) s := by
  unfold alertDoneOwn
  dsimp only
  rw [here]
  rfl

theorem anyNumber_append (below : List InService) {top : InService} {number : AlertNumber}
    (other : top.number ≠ number) :
    (below ++ [top]).any (fun r => r.number == number) = true ↔ ∃ r ∈ below, r.number = number := by
  simp only [List.any_append, List.any_cons, List.any_nil, Bool.or_false, Bool.or_eq_true, beq_iff_eq, other, or_false,
    List.any_eq_true]

/-- Settles O31: the top record decides. -/
theorem alertDonePopsTheTopAlone : Obligations.AlertDonePopsTheTopAlone := by
  intro s tag number rest takes
  refine ⟨fun empty => ?_, fun below top split => ?_⟩
  · apply alertDone_answers takes
    unfold alertDoneOwn
    rw [taken_stack, empty]
    rfl
  · have here : (taken tag rest s).stack.getLast? = some top := by
      rw [taken_stack, split, List.getLast?_concat]
    have own := alertDoneOwn_top (tag := tag) (number := number) here
    rw [taken_stack, split] at own
    refine ⟨fun named => ?_, fun other deeper => ?_, fun other none => ?_⟩
    · apply alertDone_answers takes
      have lower : s.stack.dropLast = below := by rw [split, List.dropLast_concat]
      rw [own, if_pos named, alertDoneResults, popTop, taken_stack, lower, ← named]
      rfl
    · apply alertDone_answers takes
      rw [own, if_neg other, if_pos ((anyNumber_append below other).mpr deeper)]
      rfl
    · apply alertDone_answers takes
      rw [own, if_neg other, if_neg]
      · rfl
      · intro found
        obtain ⟨r, member, same⟩ := (anyNumber_append below other).mp found
        exact none r member same

end Sys2Proof.Machine
end

section
/-! PROOF. Encodings (O34): legal entries and trunk parameters are read back from their bytes, and a message in
transmission drives the characters of its layout. -/

namespace Sys2Proof.Machine

-- One proof after the other: many at once ask for too many threads.
set_option Elab.async false

/-! ## Numbers in one and two bytes (R198) -/

theorem byte_toNat {n : Nat} (small : n < 256) : (BitVec.ofNat 8 n).toNat = n := by
  rw [BitVec.toNat_ofNat]
  omega

theorem word_toNat {n : Nat} (small : n < 65536) :
    (BitVec.ofNat 8 (n / 256)).toNat * 256 + (BitVec.ofNat 8 n).toNat = n := by
  rw [BitVec.toNat_ofNat, BitVec.toNat_ofNat]
  omega

theorem value_bytes (v : Value) : BitVec.ofNat 8 (v.toNat / 256) ++ BitVec.ofNat 8 v.toNat = v := by
  refine BitVec.eq_of_toNat_eq ?_
  rw [append_toNat]
  exact word_toNat v.isLt

theorem raiseOn_read (r : RaiseOn) : raiseOnOf (BitVec.ofNat 8 r.code) = r := by
  obtain ⟨abnormal, normalReturn, stale, fault⟩ := r
  revert abnormal normalReturn stale fault
  decide

theorem raiseOn_small (r : RaiseOn) : r.code < 16 := by
  obtain ⟨abnormal, normalReturn, stale, fault⟩ := r
  revert abnormal normalReturn stale fault
  decide

theorem policy_small (p : Policy) : p.code < 4 := by cases p <;> decide

theorem sense_small (x : Sense) : x.code < 2 := by cases x <;> decide

theorem sense_code_zero {x : Sense} (zero : x.code = 0) : x = .insideNormal := by
  cases x with
  | insideNormal => rfl
  | outsideNormal => cases zero

theorem trigger_small (t : Trigger) : t.code < 4 := by cases t <;> decide

theorem trigger_code_zero {t : Trigger} (zero : BitVec.ofNat 8 t.code = 0#8) : t = .off := by
  cases t with
  | off => rfl
  | periodic | onSample | requestOnly => exact absurd zero (by decide)

/-! ## A valid point entry is read back (R3, R5, R202) -/

/-- The nineteen bytes of a valid entry. -/
def validPointBytes (e : PointEntry) (slot : Byte) : List Byte :=
  [1#8, BitVec.ofNat 8 e.lane.val, BitVec.ofNat 8 e.node.val, BitVec.ofNat 8 e.index.val,
    BitVec.ofNat 8 e.policy.code, BitVec.ofNat 8 (e.deadband / 256), BitVec.ofNat 8 e.deadband,
    BitVec.ofNat 8 e.sense.code, BitVec.ofNat 8 (e.lower.toNat / 256), BitVec.ofNat 8 e.lower.toNat,
    BitVec.ofNat 8 (e.upper.toNat / 256), BitVec.ofNat 8 e.upper.toNat, BitVec.ofNat 8 (e.hysteresis / 256),
    BitVec.ofNat 8 e.hysteresis, BitVec.ofNat 8 e.qualify, BitVec.ofNat 8 (e.staleLimit / 256),
    BitVec.ofNat 8 e.staleLimit, BitVec.ofNat 8 e.raiseOn.code, slot]

/-- What the operand forms read from the bytes of a valid entry in range. -/
structure ReadsPoint (e : PointEntry) (b : List Byte) : Prop where
  lane : numAt b 1 = e.lane.val
  node : numAt b 2 = e.node.val
  index : numAt b 3 = e.index.val
  policyCode : numAt b 4 = e.policy.code
  policy : enumOf policies (byteAt b 4) = some e.policy
  deadband : wordAt b 5 = e.deadband
  senseCode : numAt b 7 = e.sense.code
  sense : enumOf senses (byteAt b 7) = some e.sense
  lower : valueAt b 8 = e.lower
  upper : valueAt b 10 = e.upper
  hysteresis : wordAt b 12 = e.hysteresis
  qualify : numAt b 14 = e.qualify
  staleLimit : wordAt b 15 = e.staleLimit
  raiseOnCode : numAt b 17 = e.raiseOn.code
  raiseOn : raiseOnOf (byteAt b 17) = e.raiseOn
  slotByte : slotByteOk (byteAt b 18) = true
  slot : slotOf (byteAt b 18) = e.slot

theorem validPointBytes_read {e : PointEntry} {slot : Byte} (legal : e.legal) (ok : slotByteOk slot = true)
    (named : slotOf slot = e.slot) : ReadsPoint e (validPointBytes e slot) := by
  obtain ⟨node, deadband, -, hysteresis, -, -, eight, staleLimit, -⟩ := legal
  have lane := e.lane.isLt
  have index := e.index.isLt
  have policy := policy_small e.policy
  have sense := sense_small e.sense
  have raiseOn := raiseOn_small e.raiseOn
  exact
    { lane := byte_toNat (n := e.lane.val) (by omega)
      node := byte_toNat (n := e.node.val) (by omega)
      index := byte_toNat (n := e.index.val) (by omega)
      policyCode := byte_toNat (n := e.policy.code) (by omega)
      policy := enumOf_policy e.policy
      deadband := word_toNat (n := e.deadband) (by omega)
      senseCode := byte_toNat (n := e.sense.code) (by omega)
      sense := enumOf_sense e.sense
      lower := value_bytes e.lower
      upper := value_bytes e.upper
      hysteresis := word_toNat (n := e.hysteresis) (by omega)
      qualify := byte_toNat (n := e.qualify) (by omega)
      staleLimit := word_toNat (n := e.staleLimit) (by omega)
      raiseOnCode := byte_toNat (n := e.raiseOn.code) (by omega)
      raiseOn := raiseOn_read e.raiseOn
      slotByte := ok
      slot := named }

theorem ReadsPoint.refusal {e : PointEntry} {b : List Byte} (read : ReadsPoint e b) (legal : e.legal) :
    pointRefusal b = none := by
  obtain ⟨node, deadband, ordered, hysteresis, window, one, eight, staleLimit, -⟩ := legal
  have lane := e.lane.isLt
  have index := e.index.isLt
  have policy := policy_small e.policy
  have sense := sense_small e.sense
  have raiseOn := raiseOn_small e.raiseOn
  have slot := (slotByteOk_iff _).mp read.slotByte
  rw [← numAt] at slot
  have inside : e.sense.code = 0 → 2 * (e.hysteresis : Int) ≤ e.upper.toInt - e.lower.toInt :=
    fun zero => window (sense_code_zero zero)
  simp only [pointRefusal, ite_some_eq_none_iff, read.lane, read.node, read.index, read.policyCode, read.deadband,
    read.senseCode, read.lower, read.upper, read.hysteresis, read.qualify, read.staleLimit, read.raiseOnCode]
  refine ⟨?_, ?_, ?_, ?_, ?_, ?_, ?_, ?_, ?_, ?_, ?_, ?_, ?_, trivial⟩
  all_goals omega

theorem ReadsPoint.entry {e : PointEntry} {b : List Byte} (read : ReadsPoint e b) (valid : e.valid = true) :
    pointOfBytes b = e := by
  unfold pointOfBytes
  rw [read.lane, read.node, read.index, read.policy, read.deadband, read.sense, read.lower, read.upper,
    read.hysteresis, read.qualify, read.staleLimit, read.raiseOn, read.slot, ← valid]
  simp only [Option.getD_some, Fin.ofNat_val_eq_self]

theorem readPointEntry_bytes {e : PointEntry} (legal : e.legal) : readPointEntry e.bytes = .ok e := by
  cases valid : e.valid with
  | false =>
    obtain ⟨-, -, -, -, -, -, -, -, invalid⟩ := legal
    rw [invalid valid]
    exact readPointEntry_invalid rfl
  | true =>
    obtain ⟨slot, shown, ok, named⟩ := slot_bytes e.slot
    have bytes : e.bytes = validPointBytes e slot := by
      rw [PointEntry.bytes, valid, shown]
      rfl
    have read := validPointBytes_read legal ok named
    rw [bytes, readPointEntry_passed (by exact show (1#8 : Byte) ≠ 0#8 by decide) (read.refusal legal), read.entry valid]

/-! ## A group entry and the trunk parameters are read back (R7, R8, R162) -/

theorem readGroupEntry_bytes {g : GroupEntry} (legal : g.legal) : readGroupEntry g.bytes = .ok g := by
  obtain ⟨one, eight, last, short, long, seven, inside, off⟩ := legal
  by_cases isOff : g.trigger = .off
  · rw [off isOff]
    exact readGroupEntry_off rfl
  have triggerByte : byteAt g.bytes 0 = BitVec.ofNat 8 g.trigger.code := rfl
  have triggerCode : numAt g.bytes 0 = g.trigger.code :=
    byte_toNat (Nat.lt_of_lt_of_le (trigger_small _) (by decide))
  have start : numAt g.bytes 1 = g.start.val := byte_toNat g.start.isLt
  have length : numAt g.bytes 2 = g.length := byte_toNat (by omega)
  have period : wordAt g.bytes 3 = g.period := word_toNat (by omega)
  have member : numAt g.bytes 5 = g.triggerMember := byte_toNat (by omega)
  have refusal : groupRefusal g.bytes = none := by
    have small := trigger_small g.trigger
    simp only [groupRefusal, ite_some_eq_none_iff, triggerCode, start, length, period, member]
    refine ⟨?_, ?_, ?_, ?_, ?_, trivial⟩
    all_goals omega
  have on : byteAt g.bytes 0 ≠ 0#8 := fun zero => isOff (trigger_code_zero (triggerByte ▸ zero))
  rw [readGroupEntry_passed on refusal]
  have entry : groupOfBytes g.bytes = g := by
    unfold groupOfBytes
    rw [triggerByte, enumOf_trigger, length, period, member,
      show (byteAt g.bytes 1).toFin = g.start from Fin.ext start]
    rfl
  rw [entry]

theorem readTrunkParams_field {p : TrunkParams} (silence : p.silenceTimeout ≤ 255) (wake : 1 ≤ p.wakeInterval)
    (wake' : p.wakeInterval ≤ 60) (limit : 1 ≤ p.wakeLimit) (limit' : p.wakeLimit ≤ 15) (ack : 1 ≤ p.ackTimeout)
    (ack' : p.ackTimeout ≤ 600) (retries : p.retryLimit ≤ 7) : readTrunkParams p.field = .ok p := by
  have silenceTimeout : numAt p.field 0 = p.silenceTimeout := byte_toNat (by omega)
  have wakeInterval : numAt p.field 1 = p.wakeInterval := byte_toNat (by omega)
  have wakeLimit : numAt p.field 2 = p.wakeLimit := byte_toNat (by omega)
  have ackTimeout : wordAt p.field 3 = p.ackTimeout := word_toNat (by omega)
  have retryLimit : numAt p.field 5 = p.retryLimit := byte_toNat (by omega)
  have passes : firstFailure (trunkChecks p.field) = none := by
    simp [trunkChecks, silenceTimeout, wakeInterval, wakeLimit, ackTimeout, retryLimit, silence, wake, wake', limit,
      limit', ack, ack', retries]
  rw [readTrunkParams, passes, silenceTimeout, wakeInterval, wakeLimit, ackTimeout, retryLimit]

/-! ## Layouts (R198, R201, R203) -/

theorem u16_eq (n : Nat) : u16 n = bytes16 (BitVec.ofNat 16 n) := by
  have high : BitVec.ofNat 8 (n / 256) = (BitVec.ofNat 16 n).extractLsb' 8 8 := by
    refine BitVec.eq_of_toNat_eq ?_
    rw [BitVec.extractLsb'_toNat, Nat.shiftRight_eq_div_pow, BitVec.toNat_ofNat, BitVec.toNat_ofNat]
    omega
  have low : BitVec.ofNat 8 n = (BitVec.ofNat 16 n).extractLsb' 0 8 := by
    refine BitVec.eq_of_toNat_eq ?_
    rw [BitVec.extractLsb'_toNat, Nat.shiftRight_eq_div_pow, BitVec.toNat_ofNat, BitVec.toNat_ofNat]
    omega
  rw [u16, bytes16, high, low]

theorem u16_toNat (v : BitVec 16) : u16 v.toNat = bytes16 v := by
  rw [u16_eq, BitVec.ofNat_toNat, BitVec.setWidth_eq]

theorem s16_eq (v : Value) : s16 v = bytes16 v := u16_toNat v

theorem u32_eq (v : BitVec 32) : u32 v = bytes32 v := by
  have digit (k : Nat) (small : k ≤ 24) : BitVec.ofNat 8 (v.toNat / 2 ^ k) = v.extractLsb' k 8 := by
    refine BitVec.eq_of_toNat_eq ?_
    rw [BitVec.extractLsb'_toNat, Nat.shiftRight_eq_div_pow, BitVec.toNat_ofNat]
  have zero := digit 0 (by decide)
  rw [pow_zero, Nat.div_one] at zero
  rw [u32, bytes32, ← digit 24 (by decide), ← digit 16 (by decide), ← digit 8 (by decide), ← zero]
  rfl

theorem yesNo_layout (b : Bool) : yesNo b = [0#7 ++ BitVec.ofBool b] := by cases b <;> rfl

theorem dataFlags_layout (m : DataMessage) : BitVec.ofNat 8 (dataFlags m) =
    0#5 ++ BitVec.ofBool m.reading.held ++ BitVec.ofBool m.reading.fault ++ BitVec.ofBool m.transition := by
  unfold dataFlags
  generalize m.reading.held = held
  generalize m.reading.fault = fault
  generalize m.transition = transition
  revert held fault transition
  decide

theorem sequence_layout (q : Sequence) : BitVec.ofNat 8 q.toNat = 0#2 ++ q := by
  have := q.isLt
  refine byte_of_toNat ?_
  rw [append_toNat]
  exact Nat.zero_add _

theorem cause_layout : Cause.field = Cause.layout := by
  funext c
  cases c <;> rfl

theorem member_layout : ReportMember.field = ReportMember.layout := by
  funext m
  obtain ⟨point, condition, value, age⟩ := m
  unfold ReportMember.field ReportMember.layout
  dsimp only
  have shownValue : optional 2 (value.map s16) =
      match value with | none => [0#8, 0#8, 0#8] | some v => 1#8 :: bytes16 v := by
    cases value with
    | none => rfl
    | some v => exact congrArg (List.cons 1#8) (s16_eq v)
  have shownAge : optional 2 (age.map u16) =
      match age with | none => [0#8, 0#8, 0#8] | some a => 1#8 :: bytes16 (BitVec.ofNat 16 a) := by
    cases age with
    | none => rfl
    | some a => exact congrArg (List.cons 1#8) (u16_eq a)
  rw [shownValue, shownAge, List.append_assoc]
  cases condition <;> rfl

/-- The characters of a message are its layout's, kind by kind. -/
theorem message_layout (m : Message) : m.layout = (BitVec.ofNat 8 m.kind, m.payload) := by
  cases m with
  | attachReply a =>
    simp only [Message.layout, Message.payload, u16_eq a.params.ackTimeout, u16_toNat, u32_eq, TrunkParams.field,
      List.append_assoc]
    rfl
  | reply r => rfl
  | relayDone d => rfl
  | data d =>
    simp only [Message.layout, Message.payload, s16_eq, u32_eq, u8, dataFlags_layout, sequence_layout, List.append_assoc]
    rfl
  | unmatched u =>
    simp only [Message.layout, Message.payload, s16_eq, u32_eq, u8, yesNo_layout, sequence_layout, List.append_assoc]
    rfl
  | report r =>
    have tag : optional 1 (r.tag.map fun t => [t]) = match r.tag with | none => [0#8, 0#8] | some tag => [1#8, tag] := by
      cases r.tag <;> rfl
    simp only [Message.layout, Message.payload, u16_toNat, u32_eq, tag, member_layout, List.append_assoc]
    rfl
  | alert a =>
    simp only [Message.layout, Message.payload, u32_eq, yesNo_layout, causesField, cause_layout, List.append_assoc]
    rfl
  | lapse l =>
    simp only [Message.layout, Message.payload, u32_eq, List.append_assoc]
    rfl
  | wake w =>
    simp only [Message.layout, Message.payload, u32_eq, List.append_assoc]
    rfl

/-- Settles O34: the entries by their fields, the messages kind by kind. -/
theorem entriesReadBackAndMessagesDriveTheirCharacters : Obligations.EntriesReadBackAndMessagesDriveTheirCharacters := by
  refine ⟨⟨fun e => readPointEntry_bytes, fun g => readGroupEntry_bytes,
    fun p silence wake wake' limit limit' ack ack' retries =>
      readTrunkParams_field silence wake wake' limit limit' ack ack' retries⟩,
    ⟨fun s idle => ?_, ?_⟩, ⟨rfl, rfl, rfl, rfl, rfl, rfl, fun _ => rfl, rfl⟩⟩
  · rw [State.ttxd, idle]
    exact ⟨fun silent => by rw [silent]; rfl, fun c cut => by rw [cut]; rfl⟩
  · rintro s m kind payload span sending layout rfl
    rw [message_layout] at layout
    cases layout
    rw [State.ttxd, sending]
    rfl

end Sys2Proof.Machine
end

section
/-! PROOF. Reads of the map and of the conditions (O35), the start of a long map operation and BUSY (O36), the copy of
one entry (O37). -/

namespace Sys2Proof.Machine

-- One proof after the other: many at once ask for too many threads.
set_option Elab.async false

variable {s : State} {tag : Tag} {rest : List (List Byte)}

/-! ## READ_POINT and READ_GROUP (R92, R93) -/

theorem readPoint_answers {t : State} {status : Status} {results : List Byte} {b0 b1 : Byte}
    (free : s.mgmt.tracker.operation = .none) (takes : Takes s tag 1#8 [b0, b1] rest)
    (ran : readPointOwn tag [b0, b1] (taken tag rest s) = ⟨taken tag rest t, some ⟨status, results⟩⟩) :
    Answers .readPoint s tag rest status results t := take_answers (o := .readPoint) takes rfl (.inr free) ran

theorem readGroup_answers {t : State} {status : Status} {results : List Byte} {b0 b1 : Byte}
    (free : s.mgmt.tracker.operation = .none) (takes : Takes s tag 3#8 [b0, b1] rest)
    (ran : readGroupOwn tag [b0, b1] (taken tag rest s) = ⟨taken tag rest t, some ⟨status, results⟩⟩) :
    Answers .readGroup s tag rest status results t := take_answers (o := .readGroup) takes rfl (.inr free) ran

theorem readCondition_answers {t : State} {status : Status} {results : List Byte} {b0 b1 : Byte}
    (takes : Takes s tag 8#8 [b0, b1] rest)
    (ran : readConditionOwn tag [b0, b1] (taken tag rest s) = ⟨taken tag rest t, some ⟨status, results⟩⟩) :
    Answers .readCondition s tag rest status results t := take_answers (o := .readCondition) takes rfl (.inl rfl) ran

theorem readPointOwn_named {o : List Byte} {role : Role} (named : enumOf roles (byteAt o 1) = some role) :
    readPointOwn tag o s = answerOk (readPointResults s (byteAt o 0).toFin role) s := by
  simp only [readPointOwn, named]

theorem readPointOwn_unnamed {o : List Byte} (unnamed : enumOf roles (byteAt o 1) = none) :
    readPointOwn tag o s = badValue 2 s := by
  simp only [readPointOwn, unnamed]

theorem readGroupOwn_named {o : List Byte} {role : Role} {g : GroupId} (group : groupOf (byteAt o 0) = some g)
    (named : enumOf roles (byteAt o 1) = some role) : readGroupOwn tag o s = answerOk (readGroupResults s g role) s := by
  simp only [readGroupOwn, group, named]

theorem readGroupOwn_unnamed {o : List Byte} {g : GroupId} (group : groupOf (byteAt o 0) = some g)
    (unnamed : enumOf roles (byteAt o 1) = none) : readGroupOwn tag o s = badValue 2 s := by
  simp only [readGroupOwn, group, unnamed]

theorem readGroupOwn_ungrouped {o : List Byte} (ungrouped : groupOf (byteAt o 0) = none) :
    readGroupOwn tag o s = badIndex (byteAt o 0) s := by
  simp only [readGroupOwn, ungrouped]

/-- The check result's byte: MATCH 0, MISMATCH 1 (R202). -/
theorem checkResult_eq (agrees : Bool) : checkResult agrees = [if agrees = true then 0#8 else 1#8] := by
  cases agrees <;> rfl

theorem shownMark_eq (role : Role) (mark : Bool) :
    shownMark role mark = [if role = .active ∧ mark = true then 1#8 else 0#8] := by
  cases role <;> cases mark <;> rfl

theorem role_byte {b : Byte} {role : Role} (named : b = BitVec.ofNat 8 role.code) : u8 role.code = [b] := by
  rw [named]
  rfl

theorem readPointResults_eq {b0 b1 : Byte} {p : PointId} {role : Role} {e : Stored PointEntry}
    (point : b0.toNat = p.val) (named : b1 = BitVec.ofNat 8 role.code)
    (stored : e = (s.map.bank (s.map.nameOf role)).points[p]) : readPointResults s p role =
      [b1] ++ u8 (s.map.nameOf role).code ++ [b0] ++ e.entry.bytes ++ codeField e.code ++
        [if crc16 e.entry.bytes = e.code then 0#8 else 1#8] ++
        [if role = .active ∧ e.mark = true then 1#8 else 0#8] ++ u16 s.map.generation.toNat := by
  unfold readPointResults
  dsimp only
  rw [← stored, role_byte named, u8_of_toNat point, checkResult_eq, shownMark_eq]
  simp only [pointAgrees_iff]

theorem readGroupResults_eq {b0 b1 : Byte} {g : GroupId} {role : Role} {e : Stored GroupEntry}
    (group : b0.toNat = g.val) (named : b1 = BitVec.ofNat 8 role.code)
    (stored : e = (s.map.bank (s.map.nameOf role)).groups[g]) : readGroupResults s g role =
      [b1] ++ u8 (s.map.nameOf role).code ++ [b0] ++ e.entry.bytes ++ codeField e.code ++
        [if crc16 e.entry.bytes = e.code then 0#8 else 1#8] ++
        [if role = .active ∧ e.mark = true then 1#8 else 0#8] ++ u16 s.map.generation.toNat := by
  unfold readGroupResults
  dsimp only
  rw [← stored, role_byte named, u8_of_toNat group, checkResult_eq, shownMark_eq]
  simp only [groupAgrees_iff]

/-! ## READ_CONDITION (R48) -/

theorem readConditionOwn_named {b0 b1 : Byte} {clear : Bool} {p : PointId} (point : b0.toNat = p.val)
    (named : enumOf countersOptions b1 = some clear) : readConditionOwn tag [b0, b1] s =
      answerOk (readConditionResults s p)
        (if clear then s.setRecord p { s.records[p] with samples := 0#32, gaps := 0#32, duplicates := 0#32 }
        else s) := by
  obtain rfl : (byteAt [b0, b1] 0).toFin = p := toFin_of_toNat point
  have option : enumOf countersOptions (byteAt [b0, b1] 1) = some clear := named
  unfold readConditionOwn
  dsimp only
  rw [option]

theorem readConditionResults_eq {b0 : Byte} {p : PointId} {r : RuntimeRecord} (point : b0.toNat = p.val)
    (record : r = s.records[p]) : readConditionResults s p =
      [b0] ++
        [if (s.activePoint p).mark then 2#8 else if (s.activePoint p).entry.valid then 0#8 else 1#8] ++
        u16 s.map.generation.toNat ++ u8 r.condition.code ++ u8 r.vote ++
        optional 2 (r.lastValue.map s16) ++ optional 1 (r.lastSequence.map fun q => u8 q.toNat) ++
        optional 2 (r.lastForwarded.map s16) ++ optional 4 (r.lastSampleTime.map u32) ++
        timerField s.deviceTime r.timer ++ u32 r.samples ++ u32 r.gaps ++ u32 r.duplicates := by
  have entry : u8 (entryStateCode (s.activePoint p)) =
      [if (s.activePoint p).mark then 2#8 else if (s.activePoint p).entry.valid then 0#8 else 1#8] := by
    unfold entryStateCode
    cases (s.activePoint p).mark <;> cases (s.activePoint p).entry.valid <;> rfl
  unfold readConditionResults
  dsimp only
  rw [entry, u8_of_toNat point, ← record]

/-- Settles O35: request by request, along the checks of each. -/
theorem mapAndConditionReadsShowTheState : Obligations.MapAndConditionReadsShowTheState := by
  intro s tag b0 b1 rest
  refine ⟨fun role name bank named free => ⟨fun p e point stored takes => ?_, fun g e group stored takes => ?_⟩,
    fun unnamed free => ⟨fun takes => ?_, fun takes group => ?_⟩, fun ungrouped free takes => ?_,
    fun unnamed takes => ?_, fun p clear point named takes r record => ?_⟩
  · have role' : enumOf roles b1 = some role := named ▸ enumOf_role role
    obtain rfl : name = s.map.nameOf role := bank.trans (by cases role <;> rfl)
    rw [← readPointResults_eq point named stored]
    apply readPoint_answers free takes
    rw [readPointOwn_named (o := [b0, b1]) role', show (byteAt [b0, b1] 0).toFin = p from toFin_of_toNat point]
    rfl
  · have role' : enumOf roles b1 = some role := named ▸ enumOf_role role
    obtain rfl : name = s.map.nameOf role := bank.trans (by cases role <;> rfl)
    rw [← readGroupResults_eq group named stored]
    apply readGroup_answers free takes
    rw [readGroupOwn_named (o := [b0, b1]) (groupOf_some group) role']
    rfl
  · exact readPoint_answers free takes (readPointOwn_unnamed (o := [b0, b1]) (enumOf_none unnamed))
  · exact readGroup_answers free takes
      (readGroupOwn_unnamed (o := [b0, b1]) (groupOf_some (g := ⟨b0.toNat, group⟩) rfl) (enumOf_none unnamed))
  · exact readGroup_answers free takes (readGroupOwn_ungrouped (o := [b0, b1]) (groupOf_none ungrouped))
  · apply readCondition_answers takes
    have bad : enumOf countersOptions (byteAt [b0, b1] 1) = none := enumOf_none unnamed
    simp only [readConditionOwn, bad]
    rfl
  · have option : enumOf countersOptions b1 = some clear := named ▸ enumOf_counters clear
    rw [← readConditionResults_eq point record]
    apply readCondition_answers takes
    rw [readConditionOwn_named point option, record]
    cases clear <;> rfl

/-! ## The start of a long map operation, and BUSY (R95 to R100) -/

/-- A take whose execution starts a long map operation leaves its cache entry IN_PROGRESS and places no reply. -/
theorem take_starts {o : Operation} {t : State} {operands : List Byte} (takes : Takes s tag o.code operands rest)
    (fits : operandsFit o operands = true) (free : s.mgmt.tracker.operation = .none)
    (ran : o.own tag operands (taken tag rest s) = ⟨t, none⟩) :
    exec o.command s = .next (cacheInsert ⟨tag, o.code, none⟩ t) := by
  rw [take_executes takes, executeTested_own (s := taken tag rest s) fits (.inr free), ran]
  rfl

/-- The two operand bytes of COMMIT are the expected generation. -/
theorem wordAt_generation (b0 b1 : Byte) (generation : BitVec 16) :
    wordAt [b0, b1] 0 = generation.toNat ↔ b0 ++ b1 = generation := by
  rw [← BitVec.toNat_inj, append_toNat]
  rfl

theorem operandsFit_map {o : Operation} {operands : List Byte} (names : o ∈ mapOperations)
    (fits : operands.length = o.operandCount operands) : operandsFit o operands = true := by
  simp only [mapOperations, List.mem_cons, List.not_mem_nil, or_false] at names
  rcases names with rfl | rfl | rfl | rfl | rfl | rfl | rfl
  all_goals exact beq_iff_eq.mpr fits

/-- Settles O36: a start is a take without an answer, and BUSY is the test ahead of every own check. -/
theorem longMapOperationsStartAndKeepTheMapBusy : Obligations.LongMapOperationsStartAndKeepTheMapBusy := by
  refine ⟨fun s tag rest free => ⟨fun takes => ?_, fun b0 b1 takes => ⟨fun current => ?_, fun other => ?_⟩⟩,
    fun o s tag operands rest names fits busy takes => ?_⟩
  · exact take_starts (o := .copyActive) takes rfl free rfl
  · have word : ¬wordAt [b0, b1] 0 ≠ s.map.generation.toNat := not_not.mpr ((wordAt_generation b0 b1 _).mpr current)
    refine (take_starts (o := .commit) takes rfl free (if_neg word)).trans ?_
    rfl
  · have word : wordAt [b0, b1] 0 ≠ s.map.generation.toNat := mt (wordAt_generation b0 b1 _).mp other
    refine take_answers (o := .commit) takes rfl (.inr free) ?_
    show commitOwn tag [b0, b1] (taken tag rest s) = _
    rw [commitOwn, if_pos (show wordAt [b0, b1] 0 ≠ (taken tag rest s).map.generation.toNat from word), u16_wordAt]
    rfl
  · have named : namesMap o = true := decide_eq_true names
    unfold Answers
    rw [take_executes takes, executeTested, operandsFit_map names fits,
      if_neg (show ¬(!true) = true from Bool.false_ne_true), if_pos ⟨named, busy⟩]
    rfl

/-! ## The copy of one entry (R98) -/

theorem copyEntry_point (active shadow : Bank) (p : PointId) :
    copyEntry active shadow p.val = shadow.setPoint p { active.points[p] with mark := false } := by
  unfold copyEntry
  rw [if_pos p.isLt]
  simp only [pointAt_val]

theorem copyEntry_group (active shadow : Bank) (g : GroupId) :
    copyEntry active shadow (256 + g.val) = shadow.setGroup g { active.groups[g] with mark := false } := by
  unfold copyEntry
  rw [if_neg (by omega)]
  simp only [groupAt_val]

/-- Settles O37: by the position of the copy. -/
theorem copyEntryCopiesOneEntryAndCompletes : Obligations.CopyEntryCopiesOneEntryAndCompletes := by
  rintro s n shadow running copying rfl copied
  have bank : copyEntry s.map.activeBank s.map.shadowBank s.mgmt.tracker.position = shadow := by
    rcases copied with ⟨p, position, rfl⟩ | ⟨g, position, rfl⟩
    · rw [position, copyEntry_point]
    · rw [position, copyEntry_group]
  have event : copyActiveEntryEvent s =
      if s.mgmt.tracker.position + 1 < 272 then advance (s.setMap (s.map.setShadowBank shadow))
      else endLongOp .ok (copyResults (advance (s.setMap (s.map.setShadowBank shadow))))
        (advance (s.setMap (s.map.setShadowBank shadow))) := by
    rw [copyActiveEntryEvent]
    dsimp only
    rw [if_pos copying, bank]
    rfl
  rw [show exec .copyActiveEntry s = .next (copyActiveEntryEvent s) from running_released s _ running, event]
  obtain ⟨active, -, generation, -⟩ := s.map.setShadowBank_frame shadow
  refine ⟨fun more => ?_, fun last => ?_⟩
  · rw [if_pos more]
    rfl
  · rw [if_neg (by omega), endLongOp_eq]
    have results : copyResults (advance (s.setMap (s.map.setShadowBank shadow))) =
        u8 s.map.active.code ++ u8 s.map.active.other.code ++ u16 s.map.generation.toNat := by
      show u8 (s.map.setShadowBank shadow).active.code ++ u8 (s.map.setShadowBank shadow).active.other.code ++
        u16 (s.map.setShadowBank shadow).generation.toNat = _
      rw [active, generation]
    have op : (advance (s.setMap (s.map.setShadowBank shadow))).mgmt.tracker.operation = .copyActive := copying
    rw [results, op]
    rfl

end Sys2Proof.Machine
end

section
/-! PROOF. The completion of a COMMIT (O39): what it retains, exchanges, prunes and reconciles. -/

namespace Sys2Proof.Machine

-- One proof after the other: many at once ask for too many threads.
set_option Elab.async false

variable {s : State}

/-! ## What is retained (R104) -/

theorem pointUsable_iff (e : Stored PointEntry) : pointUsable e = true ↔ e.entry.valid = true ∧ e.mark = false := by
  rw [pointUsable, Bool.and_eq_true, Bool.not_eq_true']

theorem key_eq_iff (a b : PointEntry) : a.key = b.key ↔ a.lane = b.lane ∧ a.node = b.node ∧ a.index = b.index := by
  simp only [PointEntry.key, Key.mk.injEq]

theorem retains_iff (old new : Stored PointEntry) : retains old new = true ↔
    old.entry.valid = true ∧ old.mark = false ∧ new.entry.valid = true ∧ new.mark = false ∧
      old.entry.lane = new.entry.lane ∧ old.entry.node = new.entry.node ∧ old.entry.index = new.entry.index ∧
      old.entry.sense = new.entry.sense ∧ old.entry.lower = new.entry.lower ∧
      old.entry.upper = new.entry.upper ∧ old.entry.hysteresis = new.entry.hysteresis := by
  simp only [retains, Bool.and_eq_true, beq_iff_eq, pointUsable_iff, key_eq_iff, and_assoc]

/-- The rows of a table, in order. -/
theorem toList_eq_map {α : Type} {n : Nat} (v : Vector α n) : v.toList = (allFin n).map fun i => v[i] := by
  refine List.ext_getElem (by simp) fun i inside inside' => ?_
  rw [List.getElem_map, Vector.getElem_toList]
  have small : i < n := by simpa using inside
  have here : (allFin n)[i]'(by simpa using inside') = ⟨i, small⟩ := by
    exact allFin_getElem i _
  rw [here]
  rfl

/-- The results of a completed COMMIT, counted over the point ids (R103). -/
theorem commitResults_eq (s : State) : commitResults s =
    u16 (s.map.generation + 1).toNat ++ u8 s.map.active.other.code ++
      u16 ((allFin 256).countP fun p => s.retainsPoint p) ++
      u16 (256 - (allFin 256).countP fun p => s.retainsPoint p) ++
      u16 ((allFin 256).countP fun p => s.map.shadowBank.points[p].entry.valid) := by
  unfold commitResults
  dsimp only
  rw [toList_eq_map, List.countP_map]
  rfl

/-! ## The records, the slots and the timers (R104 to R107) -/

theorem reconcileRecord_retained {p : PointId} (retained : s.retainsPoint p = true) (r : RuntimeRecord) :
    reconcileRecord s p r =
      if s.map.shadowBank.points[p].entry.staleLimit = 0 then { r with timer := none } else r := by
  unfold reconcileRecord
  dsimp only
  rw [if_pos retained]

theorem reconcileRecord_reset {p : PointId} (reset : ¬s.retainsPoint p = true) (r : RuntimeRecord) :
    reconcileRecord s p r =
      { RuntimeRecord.cleared with
        timer :=
          if pointUsable s.map.shadowBank.points[p] ∧ 0 < s.map.shadowBank.points[p].entry.staleLimit ∧
              s.listening s.map.shadowBank.points[p].entry.lane then
            some ⟨s.deviceTime, BitVec.ofNat 32 (s.map.shadowBank.points[p].entry.staleLimit * 100)⟩
          else none } := by
  have fresh : Condition.unknown ≠ .stale := by decide
  unfold reconcileRecord staleStart
  dsimp only
  rw [if_neg reset]
  simp only [ne_eq, fresh, not_false_eq_true, and_true]
  rfl

theorem pruneSlot_causes (s : State) (sl : Slot) :
    (pruneSlot s sl).causes.Sublist sl.causes ∧
    (∀ d, Cause.device d ∈ sl.causes → Cause.device d ∈ (pruneSlot s sl).causes) ∧
    ∀ p, Cause.point p ∈ sl.causes → (Cause.point p ∈ (pruneSlot s sl).causes ↔ s.retainsPoint p = true) := by
  refine ⟨List.filter_sublist, fun d member => List.mem_filter.mpr ⟨member, rfl⟩, fun p member => ?_⟩
  rw [pruneSlot, List.mem_filter, prunes, Bool.not_not]
  exact and_iff_right member

theorem reconcileTimer_eq (now : Time) (old new : Stored GroupEntry) (t : Option Timer) :
    reconcileTimer now old new t =
      if new.entry.trigger = .periodic then
        if old.entry = new.entry ∧ old.mark = false then t
        else some ⟨now, BitVec.ofNat 32 (new.entry.period * 100)⟩
      else none := by
  unfold reconcileTimer
  simp only [Bool.not_eq_true']
  rfl

/-- The frame of the exchange: the other bank's name, the checked index, the next generation (R103). -/
theorem exchange_frame (m : MapStore) : m.exchange.active = m.active.other ∧
    m.exchange.generation = m.generation + 1 ∧ m.exchange.keyIndex = m.partialIndex := ⟨rfl, rfl, rfl⟩

/-- The state that the completion of a COMMIT answers from (R103 to R107). -/
def committed (s : State) : State :=
  { s with
    map := s.map.exchange
    records := rowsMap (reconcileRecord s) s.records
    slots := rowsMap (fun _ sl => pruneSlot s sl) s.slots
    periodTimers :=
      rowsMap (fun g t => reconcileTimer s.deviceTime s.map.activeBank.groups[g] s.map.shadowBank.groups[g] t)
        s.periodTimers }

theorem commitCompletionEvent_ready (commit : s.mgmt.tracker.operation = .commit)
    (ready : s.mgmt.tracker.phase = .ready) : commitCompletionEvent s =
      longOpEnded ⟨s.mgmt.tracker.tag, 7#8, .ok, commitResults s⟩ (committed s) := by
  have ended := endLongOp_eq (committed s) .ok (commitResults s)
  rw [show (committed s).mgmt.tracker = s.mgmt.tracker from rfl, commit] at ended
  unfold commitCompletionEvent
  dsimp only
  rw [if_pos ⟨commit, ready⟩]
  exact ended

/-- Settles O39: the completed state field by field, each by its lemma above. -/
theorem commitCompletionExchangesAndReconciles : Obligations.CommitCompletionExchangesAndReconciles := by
  intro s kept running commit ready keeps
  have retained (p : PointId) : s.retainsPoint p = true ↔ kept p := by
    rw [keeps, State.retainsPoint, retains_iff]
    exact ⟨fun h => ⟨_, _, rfl, rfl, h⟩, fun ⟨_, _, hold, hnew, h⟩ => hold ▸ hnew ▸ h⟩
  refine ⟨committed s, (allFin 256).countP (fun p => s.retainsPoint p),
    (allFin 256).countP (fun p => s.map.shadowBank.points[p].entry.valid), ?_, rfl, retained, rfl, rfl, rfl, rfl, rfl,
    MapStore.exchange_activeBank _, fun p => ?_, fun g => ?_, fun p isKept => ?_, fun p isReset => ?_, fun k => ?_,
    fun g => ?_⟩
  · rw [← commitResults_eq, ← commitCompletionEvent_ready commit ready]
    exact running_released s _ running
  · show s.map.exchange.shadowBank.points[p] = _
    rw [MapStore.exchange_shadowBank, Bank.clearMarks_points]
  · show s.map.exchange.shadowBank.groups[g] = _
    rw [MapStore.exchange_shadowBank, Bank.clearMarks_groups]
  · show (rowsMap (reconcileRecord s) s.records)[p] = _
    rw [rowsMap_apply, reconcileRecord_retained ((retained p).mpr isKept)]
  · show (rowsMap (reconcileRecord s) s.records)[p] = _
    rw [rowsMap_apply, reconcileRecord_reset (mt (retained p).mp isReset)]
  · obtain ⟨sub, devices, points⟩ := pruneSlot_causes s s.slots[k]
    refine ⟨(pruneSlot s s.slots[k]).causes, ?_, sub, devices, fun p member => (points p member).trans (retained p)⟩
    show (rowsMap (fun _ sl => pruneSlot s sl) s.slots)[k] = _
    rw [rowsMap_apply]
    rfl
  · show (rowsMap _ s.periodTimers)[g] = _
    rw [rowsMap_apply, reconcileTimer_eq]

end Sys2Proof.Machine
end

section
/-! PROOF. The ends of a session and of a run: the completed restart reply (O6), the silence timer's expiry (O45)
and the wake timer's expiry (O46). -/

namespace Sys2Proof.Machine

-- One proof after the other: many at once ask for too many threads.
set_option Elab.async false

variable {s : State}

/-! ## The restart reply (R196) -/

theorem transmissionCompletion_completes {m : Message} (running : s.inReset = false)
    (sending : s.out.sending = some m) :
    exec .transmissionCompletion s = .next (reportCompleted m (s.setOut { s.out with sending := none })) := by
  have event : exec .transmissionCompletion s = .next (transmissionCompletionEvent s) :=
    running_released s _ running
  rw [event, transmissionCompletionEvent]
  simp only [sending]

theorem reportCompleted_restart {r : Reply} (ok : r.status = .ok) (restart : r.op = 24#8) :
    reportCompleted (.reply r) s = warmRestart s := by
  have other : ¬(r.status = .ok ∧ r.op = Operation.enterDormant.code) := by
    rw [restart]
    exact fun both => absurd both.2 (by decide)
  unfold reportCompleted
  dsimp only
  rw [if_neg other, if_pos ⟨ok, restart.trans rfl⟩]

/-- The slot that RESTARTED is routed to holds it alone, and the others are empty (R65, R196). -/
theorem restartedSlot_eq (sl : Slot) (routed : Prop) [Decidable routed] :
    (if routed then sl.warmRestart.raise (.device .restarted) else sl.warmRestart) =
      { sl with causes := if routed then [.device .restarted] else [], overflow := false } := by
  split
  · rfl
  · rfl

/-- A lane is enabled when it is not DISABLED; a warm restart returns it to HUNT (R148). -/
theorem Lane.warmRestart_eq (x : Lane) : x.warmRestart =
    { settings := x.settings
      state := if x.state = .disabled then .disabled else .hunt
      frame := none, holdoffElapsed := false, errors := 0, holdoffTimer := none, fifo := []
      counters := ⟨0, 0, 0, 0, 0, 0, 0, 0⟩ } := by
  cases state : x.state <;> simp [Lane.warmRestart, Lane.enabled, state, LaneCounters.zero]

/-- A restarted period timer runs for an unmarked PERIODIC group (R115). -/
theorem restartPeriodTimer_eq (now : Time) (e : Stored GroupEntry) : restartPeriodTimer now e =
    if e.entry.trigger = .periodic ∧ e.mark = false then
      some ⟨now, BitVec.ofNat 32 (e.entry.period * 100)⟩
    else none := by
  unfold restartPeriodTimer
  simp only [Bool.not_eq_true']
  rfl

/-- Settles O6: the warm restart field by field. -/
theorem restartReplyCompletionRestartsEveryBlock : Obligations.RestartReplyCompletionRestartsEveryBlock := by
  intro s r running sending ok restart
  obtain ⟨slots, records, e, eachSlot, eachRecord⟩ := warmRestart_eq (s.setOut { s.out with sending := none })
  have completed := (transmissionCompletion_completes running sending).trans
    (congrArg _ ((reportCompleted_restart ok restart).trans e))
  refine ⟨_, completed, rfl, rfl, rfl,
    eachRecord, rfl, fun g => ?_, fun k => ?_, rfl, rfl, fun l => ?_, fun k => ?_, rfl, rfl, rfl, rfl,
    fun k => ?_⟩
  · dsimp only
    rw [rowsMap_apply, restartPeriodTimer_eq]
    rfl
  · exact (eachSlot k).trans (restartedSlot_eq s.slots[k] _)
  · dsimp only
    rw [rowsMap_apply, Lane.warmRestart_eq]
    rfl
  · dsimp only
    rw [rowsMap_apply]
    rfl
  · exact relaysCut_to (s := s.setOut { s.out with sending := none }) k

/-! ## The teardown (R160, R180) -/

theorem trunkClass_data (m : Message) :
    (m.trunkClass == .data) = (m.kind == 0x84 || m.kind == 0x85 || m.kind == 0x86) := by
  cases m <;> rfl

theorem isLapse_eq (m : Message) : m.isLapse = (m.kind == 0x88) := by cases m <;> rfl

theorem Outbound.teardown_eq (o : Outbound) : o.teardown =
    { alertQ := [], replyQ := [], dataQ := [], sending := none, wakeOffer := none
      loss := o.loss
      absorbed :=
        o.absorbed + BitVec.ofNat 32 (o.messages.countP fun m =>
          m.kind == 0x84 || m.kind == 0x85 || m.kind == 0x86)
      lapseNotSent := o.lapseNotSent + BitVec.ofNat 32 (o.messages.countP fun m => m.kind == 0x88) } := by
  simp only [Outbound.teardown, trunkClass_data, funext isLapse_eq]

theorem RelayTransmitter.cancel_frames (r : RelayTransmitter) : r.cancel.frames = r.frames.map RelayFrame.cancel := by
  obtain ⟨state, sending, queue⟩ := r
  cases sending <;> simp [RelayTransmitter.frames, RelayTransmitter.cancel]

/-- Settles O45: the teardown block by block. -/
theorem silenceExpiryTearsTheSessionDown : Obligations.SilenceExpiryTearsTheSessionDown := by
  intro s running
  have event : exec .silenceTimerExpiry s = .next (silenceTimerExpiryEvent s) := running_released s _ running
  rw [event, silenceTimerExpiryEvent]
  refine ⟨fun early => ?_, fun due => ⟨teardown s, ?_, rfl, rfl, cutTrunk_to s, mergeBack_apply s.slots s.stack,
    fun k => ?_, rfl, fun queued all => ?_, rfl⟩⟩
  · rw [early]
    rfl
  · rw [if_pos due]
  · have pair : (teardown s).pairs[k] = { s.pairs[k] with relay := s.pairs[k].relay.cancel } :=
      rowsMap_apply _ s.pairs k
    rw [pair]
    refine ⟨rfl, rfl, ?_⟩
    rw [RelayTransmitter.cancel_frames, funext RelayFrame.cancel_eq]
  · rw [all]
    exact Outbound.teardown_eq s.out

/-! ## The wake timer (R167, R168) -/

/-- A WAKE with nothing pending carries the level 4 (R167). -/
theorem bestPendingLevel_of_none (nothing : ∀ k, ¬s.selectable k) : s.bestPendingLevel = 4 := by
  unfold State.bestPendingLevel
  rw [(bestSlot_none s).mpr nothing]

/-- An idle transmitter starts the WAKE at its offer (R167). -/
theorem offerWake_idle (idle : s.out.sending = none) : offerWake s =
    { s with
      link := { s.link with wakeCount := s.link.wakeCount + 1 }
      out := { s.out with sending := some (.wake ⟨s.link.wakeCount + 1, s.bestPendingLevel, s.deviceTime⟩) } } := by
  unfold offerWake
  simp only [idle]

/-- Settles O46: by the wake count. -/
theorem wakeExpiryOffersAWakeOrTearsDown : Obligations.WakeExpiryOffersAWakeOrTearsDown := by
  intro s running
  have event : exec .wakeTimerExpiry s = .next (wakeTimerExpiryEvent s) := running_released s _ running
  rw [event, wakeTimerExpiryEvent]
  refine ⟨fun early => ?_, fun due => ⟨fun most => ?_, fun below idle level best => ?_⟩⟩
  · rw [early]
    rfl
  · rw [if_pos due, if_neg (Nat.not_lt.mpr most)]
  · have pending : s.bestPendingLevel = level := by
      rcases best with ⟨four, nothing⟩ | ⟨best, selectable, this, least⟩
      · rw [bestPendingLevel_of_none nothing, four]
      · rw [bestPendingLevel_of_best selectable least, this]
    rw [if_pos due, if_pos below, offerWake_idle (by exact idle), ← pending]
    rfl

end Sys2Proof.Machine
end

section
/-! PROOF. The Trunk Transmitter: what a start takes (O49) and what a completion reports (O50). -/

namespace Sys2Proof.Machine

-- One proof after the other: many at once ask for too many threads.
set_option Elab.async false

variable {s : State}

/-! ## Transmission start (R177) -/

theorem transmissionStart_busy {m : Message} (running : s.inReset = false) (sending : s.out.sending = some m) :
    exec .transmissionStart s = .next s := by
  have event : exec .transmissionStart s = .next (transmissionStartEvent s) := running_released s _ running
  rw [event, transmissionStartEvent]
  simp only [sending]

theorem transmissionStart_none (running : s.inReset = false) (chosen : chooseStart s.link.state s.out = none) :
    exec .transmissionStart s = .next s := by
  have event : exec .transmissionStart s = .next (transmissionStartEvent s) := running_released s _ running
  rw [event, transmissionStartEvent]
  split
  · next start _ started =>
    rw [chosen] at started
    cases started
  · rfl

theorem transmissionStart_some {start : Start} (running : s.inReset = false) (idle : s.out.sending = none)
    (chosen : chooseStart s.link.state s.out = some start) :
    exec .transmissionStart s =
      .next
        { s with
          out := { start.rest with sending := some start.message }
          stack := reportStart start.message s.stack
          cuts := { s.cuts with trunk := none } } := by
  have event : exec .transmissionStart s = .next (transmissionStartEvent s) := running_released s _ running
  rw [event, transmissionStartEvent]
  simp only [idle, chosen]

/-- A start of another message than an ALERT is reported to no record (R75). -/
theorem reportStart_otherKind {m : Message} (stack : List InService) (other : m.kind ≠ 0x87) :
    reportStart m stack = stack :=
  reportStart_other (fun _ alert => other ((congrArg Message.kind alert).trans rfl)) stack

theorem chooseStart_alertQ {m : Message} {queue : List Message} {o : Outbound} (head : o.alertQ = m :: queue) :
    chooseStart .active o = some ⟨m, { o with alertQ := queue }⟩ := by
  simp only [chooseStart, head]

theorem chooseStart_replyQ {m : Message} {queue : List Message} {o : Outbound} (noAlert : o.alertQ = [])
    (head : o.replyQ = m :: queue) : chooseStart .active o = some ⟨m, { o with replyQ := queue }⟩ := by
  simp only [chooseStart, noAlert, head]

theorem chooseStart_dataQ {m : Message} {queue : List Message} {o : Outbound} (noAlert : o.alertQ = [])
    (noReply : o.replyQ = []) (head : o.dataQ = m :: queue) :
    chooseStart .active o = some ⟨m, { o with dataQ := queue }⟩ := by
  simp only [chooseStart, noAlert, noReply, head]

theorem chooseStart_empty {o : Outbound} (noAlert : o.alertQ = []) (noReply : o.replyQ = [])
    (noData : o.dataQ = []) : chooseStart .active o = none := by
  simp only [chooseStart, noAlert, noReply, noData]

theorem chooseStart_waking (o : Outbound) : chooseStart .waking o =
    o.wakeOffer.map fun m => ⟨m, { o with wakeOffer := none }⟩ := rfl

/-- Settles O49: by what the class priority chooses. -/
theorem transmissionStartsByClassPriority : Obligations.TransmissionStartsByClassPriority := by
  intro s quiet running calm
  subst calm
  refine ⟨fun m sending => transmissionStart_busy running sending, fun shut => transmissionStart_none running ?_,
    fun idle active => ⟨?_, ?_, ?_, ?_, ?_⟩, fun idle waking => ⟨?_, ?_⟩⟩
  · rcases shut with dormant | offline
    · rw [dormant]
      rfl
    · rw [offline]
      rfl
  · intro a queue head
    exact transmissionStart_some running idle (by rw [active, chooseStart_alertQ head])
  · intro m queue head other
    rw [transmissionStart_some running idle (by rw [active, chooseStart_alertQ head]), reportStart_otherKind _ other]
  · intro m queue noAlert head other
    rw [transmissionStart_some running idle (by rw [active, chooseStart_replyQ noAlert head]),
      reportStart_otherKind _ other]
  · intro m queue noAlert noReply head other
    rw [transmissionStart_some running idle (by rw [active, chooseStart_dataQ noAlert noReply head]),
      reportStart_otherKind _ other]
  · intro noAlert noReply noData
    exact transmissionStart_none running (by rw [active, chooseStart_empty noAlert noReply noData])
  · intro m offered wake
    have other : m.kind ≠ 0x87 := by
      rw [wake]
      decide
    rw [transmissionStart_some running idle (by rw [waking, chooseStart_waking, offered, Option.map_some]),
      reportStart_otherKind _ other]
  · intro notOffered
    exact transmissionStart_none running (by rw [waking, chooseStart_waking, notOffered, Option.map_none])

/-! ## Transmission completion (R164, R179) -/

theorem transmissionCompletion_idle (running : s.inReset = false) (idle : s.out.sending = none) :
    exec .transmissionCompletion s = .next s := by
  have event : exec .transmissionCompletion s = .next (transmissionCompletionEvent s) :=
    running_released s _ running
  rw [event, transmissionCompletionEvent]
  simp only [idle]

/-- The reply to any other request, or one that refuses, is reported to no block (R179). -/
theorem reportCompleted_plain {r : Reply} (plain : r.status ≠ .ok ∨ (r.op ≠ 22#8 ∧ r.op ≠ 24#8)) :
    reportCompleted (.reply r) s = s := by
  have noDormancy : ¬(r.status = .ok ∧ r.op = Operation.enterDormant.code) := fun ⟨ok, dormancy⟩ =>
    plain.elim (absurd ok) fun others => others.1 dormancy
  have noRestart : ¬(r.status = .ok ∧ r.op = Operation.restart.code) := fun ⟨ok, restart⟩ =>
    plain.elim (absurd ok) fun others => others.2 restart
  unfold reportCompleted
  dsimp only
  rw [if_neg noDormancy, if_neg noRestart]

theorem reportCompleted_dormancy {r : Reply} (ok : r.status = .ok) (dormancy : r.op = 22#8) :
    reportCompleted (.reply r) s = if s.mayEnterDormant then enterDormant s else s := by
  unfold reportCompleted
  dsimp only
  rw [if_pos ⟨ok, dormancy.trans rfl⟩]

/-- A message that no block waits for is reported to none (R179). -/
theorem reportCompleted_other {m : Message} (noAlert : ∀ a, m ≠ .alert a) (noAttach : ∀ a, m ≠ .attachReply a)
    (noReply : ∀ r, m ≠ .reply r) : reportCompleted m s = s := by
  cases m with
  | alert a => exact absurd rfl (noAlert a)
  | attachReply a => exact absurd rfl (noAttach a)
  | reply r => exact absurd rfl (noReply r)
  | _ => rfl

theorem mayEnterDormant_iff (s : State) : s.mayEnterDormant = true ↔
    s.link.state = .active ∧ s.stack = [] ∧ s.out.alertQ = [] ∧ s.out.replyQ = [] ∧
      s.reservations = 0 ∧ s.link.inbound = [] := by
  simp only [State.mayEnterDormant, Bool.and_eq_true, beq_iff_eq, List.isEmpty_iff, and_assoc]

/-- The link as it goes to DORMANT, ahead of the wake demand: the silence timer stops and the Data queue is flushed
(R164, R181). -/
def State.dormantNow (s : State) : State :=
  { s with
    link := { s.link with state := .dormant, silenceTimer := none }
    out := { s.out with
      dataQ := [], absorbed := s.out.absorbed + BitVec.ofNat 32 s.out.dataQ.length } }

theorem enterDormant_eq (s : State) : enterDormant s = wakeCheck s.dormantNow := rfl

/-- With nothing selectable the link rests in DORMANT (R164). -/
theorem enterDormant_rests (nothing : ∀ k, ¬s.selectable k) : enterDormant s = s.dormantNow := by
  obtain ⟨link, out, e, rests, -⟩ := wakeCheck_frame s.dormantNow
  obtain ⟨sameLink, sameOut⟩ := rests (.inr nothing)
  rw [enterDormant_eq, e, sameLink, sameOut]

/-- Under the wake demand the link goes on to WAKING in the same event (R164, R165, R167). -/
theorem enterDormant_wakes {best : SlotId} (idle : s.out.sending = none) (here : s.selectable best)
    (least : ∀ j, s.selectable j → s.slots[best].level ≤ s.slots[j].level) : enterDormant s =
    { s.dormantNow with
      link := { s.dormantNow.link with
        state := .waking, wakeCount := 1
        wakeTimer := some ⟨s.deviceTime, BitVec.ofNat 32 (s.link.params.wakeInterval * 1000)⟩ }
      out := { s.dormantNow.out with
        sending := some (.wake ⟨1, s.slots[best].level.val, s.deviceTime⟩) } } := by
  obtain ⟨link, out, e, -, wakes⟩ := wakeCheck_frame s.dormantNow
  obtain ⟨toWaking, m, message, offered⟩ := wakes best rfl here
  have silent : s.dormantNow.out.sending = none := idle
  rw [bestPendingLevel_of_best (u := s.dormantNow) here least] at message
  rw [silent] at offered
  dsimp only at offered
  rw [enterDormant_eq, e, toWaking, offered, message]
  rfl

/-- Settles O50: by the kind of the message, and the entry into DORMANT by the wake demand. -/
theorem transmissionCompletionReportsByKindAndEntersDormant :
    Obligations.TransmissionCompletionReportsByKindAndEntersDormant := by
  refine ⟨fun s idle running same => ?_, fun s idle r running sending ok dormancy same allowed means => ?_⟩
  · subst same
    refine ⟨transmissionCompletion_idle running, fun a sending => ?_, fun m sending => ?_,
      fun r sending plain => ?_, fun m sending noAlert noAttach noReply => ?_⟩
    · rw [transmissionCompletion_completes running sending]
      rfl
    · rw [transmissionCompletion_completes running sending]
      rfl
    · rw [transmissionCompletion_completes running sending, reportCompleted_plain plain]
    · rw [transmissionCompletion_completes running sending, reportCompleted_other noAlert noAttach noReply]
  · have may : idle.mayEnterDormant = true ↔ allowed := by
      rw [mayEnterDormant_iff, same, means]
      rfl
    rw [transmissionCompletion_completes running sending, ← same, reportCompleted_dormancy ok dormancy]
    refine ⟨fun refused => ?_, fun granted nothing => ?_, fun granted best here least => ?_⟩
    · rw [if_neg fun entered => refused (may.mp entered)]
    · rw [if_pos (may.mpr granted), enterDormant_rests (by rw [same]; exact nothing), same]
      rfl
    · have wakes := enterDormant_wakes (s := s.setOut { s.out with sending := none }) rfl here least
      rw [if_pos (may.mpr granted), same, wakes]
      rfl

end Sys2Proof.Machine
end

section
/-! PROOF. Group reports: a period timer's expiry (O40) and TRIGGER_GROUP (O41). -/

namespace Sys2Proof.Machine

-- One proof after the other: many at once ask for too many threads.
set_option Elab.async false

variable {s : State} {tag : Tag} {rest : List (List Byte)} {g : GroupId}

/-! ## A period timer's expiry (R114) -/

theorem groupAgrees_false {e : Stored GroupEntry} (disagrees : crc16 e.entry.bytes ≠ e.code) :
    groupAgrees e = false :=
  Bool.eq_false_iff.mpr fun agrees => disagrees ((groupAgrees_iff e).mp agrees)

/-- An unmarked PERIODIC group in agreement has its report offered (R110, R113). -/
theorem assembleReport_offers (origin : Origin) (unmarked : (s.activeGroup g).mark = false)
    (agrees : crc16 (s.activeGroup g).entry.bytes = (s.activeGroup g).code)
    (used : (s.activeGroup g).entry.trigger ≠ .off) :
    assembleReport g origin s = offerData (buildReport s g (s.activeGroup g).entry origin none) s := by
  unfold assembleReport
  dsimp only
  rw [unmarked, (groupAgrees_iff _).mpr agrees, if_neg used]
  rfl

/-- An unmarked group found disagreeing is marked (R16). -/
theorem assembleReport_marks (origin : Origin) (unmarked : (s.activeGroup g).mark = false)
    (disagrees : crc16 (s.activeGroup g).entry.bytes ≠ (s.activeGroup g).code) :
    assembleReport g origin s = faultGroup g s := by
  unfold assembleReport
  dsimp only
  rw [unmarked, groupAgrees_false disagrees]
  rfl

/-- The timer after an expiry: started again while the group is PERIODIC, unmarked and in agreement (R114). -/
theorem periodTimerExpiryEvent_due (due : timerDue s.deviceTime s.periodTimers[g] = true) :
    periodTimerExpiryEvent g s =
      assembleReport g .periodic (s.setPeriodTimer g
        (if !(s.activeGroup g).mark && groupAgrees (s.activeGroup g) &&
            (s.activeGroup g).entry.trigger == .periodic then
          some (periodStart s.deviceTime (s.activeGroup g).entry)
        else none)) := by
  unfold periodTimerExpiryEvent
  rw [if_pos due]

/-- Settles O40: by what the assembly finds of the group. -/
theorem periodExpiryOffersAReportAndRestarts : Obligations.PeriodExpiryOffersAReportAndRestarts := by
  intro s g e running stored
  subst stored
  have event : exec (.periodTimerExpiry g) s = .next (periodTimerExpiryEvent g s) := running_released s _ running
  rw [event]
  refine ⟨fun early => ?_, fun due unmarked => ⟨fun agrees periodic => ?_, fun disagrees => ?_⟩⟩
  · unfold periodTimerExpiryEvent
    rw [early]
    rfl
  · obtain ⟨count, shown⟩ := reportMembers_shown s (s.activeGroup g).entry
    refine ⟨_, count, shown, ?_⟩
    have used : (s.activeGroup g).entry.trigger ≠ .off := by
      rw [periodic]
      decide
    rw [periodTimerExpiryEvent_due due, unmarked, (groupAgrees_iff _).mpr agrees, periodic,
      assembleReport_offers .periodic (by exact unmarked) (by exact agrees) (by exact used)]
    rfl
  · rw [periodTimerExpiryEvent_due due, groupAgrees_false disagrees, Bool.and_false, Bool.false_and,
      assembleReport_marks .periodic (by exact unmarked) (by exact disagrees), faultGroup_eq]
    rw [← rowSet_twice s.periodTimers g none none]
    rfl

/-! ## TRIGGER_GROUP (R117) -/

/-- A group entry marked faulted, with its period timer stopped (R16). -/
def State.markGroup (g : GroupId) (s : State) : State :=
  { s with
    map := s.map.setActiveBank (s.map.activeBank.setGroup g { s.activeGroup g with mark := true })
    periodTimers := rowSet s.periodTimers g none }

theorem faultGroup_markGroup (g : GroupId) (s : State) :
    faultGroup g s = raiseDevice .mapIntegrity (s.markGroup g) := faultGroup_eq s g

theorem triggerGroup_answers {t : State} {status : Status} {results : List Byte} {b : Byte}
    (takes : Takes s tag 20#8 [b] rest)
    (ran : triggerGroupOwn tag [b] (taken tag rest s) = ⟨taken tag rest t, some ⟨status, results⟩⟩) :
    Answers .triggerGroup s tag rest status results t := take_answers (o := .triggerGroup) takes rfl (.inl rfl) ran

theorem triggerGroupOwn_named {b : Byte} (named : groupOf b = some g) :
    triggerGroupOwn tag [b] s = triggerGroup tag g s := by
  unfold triggerGroupOwn
  simp only [byteAt, List.getD_cons_zero, named]

theorem faultGroup_taken (g : GroupId) (s : State) :
    faultGroup g (taken tag rest s) = taken tag rest (faultGroup g s) :=
  raiseInto_taken tag rest (s.markGroup g) s.routing[DeviceCause.mapIntegrity.code] (.device .mapIntegrity)

/-- A group found disagreeing is left with its timer stopped (R16). -/
theorem faultGroup_stops (g : GroupId) (s : State) : (faultGroup g s).periodTimers[g] = none := by
  obtain ⟨slots, link, out, e, -⟩ := raiseInto_frame (s.markGroup g) s.routing[DeviceCause.mapIntegrity.code]
    (.device .mapIntegrity)
  have left : (faultGroup g s).periodTimers = rowSet s.periodTimers g none := by
    rw [faultGroup_markGroup]
    exact congrArg State.periodTimers e
  rw [left, rowSet_self]

section steps

variable (marked : (s.activeGroup g).mark = true) (unmarked : (s.activeGroup g).mark = false)
  (disagrees : crc16 (s.activeGroup g).entry.bytes ≠ (s.activeGroup g).code)
  (agrees : crc16 (s.activeGroup g).entry.bytes = (s.activeGroup g).code)

include marked in
theorem triggerGroup_marked : triggerGroup tag g s = refuseTrigger g true s := by
  unfold triggerGroup
  dsimp only
  rw [if_pos marked]

include unmarked

include disagrees in
theorem triggerGroup_disagrees : triggerGroup tag g s = refuseTrigger g true (faultGroup g s) := by
  unfold triggerGroup
  dsimp only
  rw [unmarked, groupAgrees_false disagrees]
  rfl

include agrees

theorem triggerGroup_off (off : (s.activeGroup g).entry.trigger = .off) :
    triggerGroup tag g s = refuseTrigger g false s := by
  unfold triggerGroup
  dsimp only
  rw [unmarked, (groupAgrees_iff _).mpr agrees, if_pos off]
  rfl

theorem triggerGroup_full (used : (s.activeGroup g).entry.trigger ≠ .off) (full : 32 ≤ s.out.dataQ.length) :
    triggerGroup tag g s = refuse .queueFull (u8 dataQueueCode ++ groupTimerField g s) s := by
  have noEntry : Config.dataCapacity ≤ s.out.dataQ.length := full
  unfold triggerGroup
  dsimp only
  rw [unmarked, (groupAgrees_iff _).mpr agrees, if_neg used, if_pos noEntry]
  rfl

theorem triggerGroup_places (used : (s.activeGroup g).entry.trigger ≠ .off) (room : s.out.dataQ.length < 32) :
    triggerGroup tag g s =
      answerOk (groupTimerField g s ++ u8 0 ++ u16 s.map.generation.toNat)
        (placeData (buildReport s g (s.activeGroup g).entry .request (some tag)) s) := by
  have anEntry : ¬Config.dataCapacity ≤ s.out.dataQ.length := Nat.not_le.mpr room
  unfold triggerGroup
  dsimp only
  rw [unmarked, (groupAgrees_iff _).mpr agrees, if_neg used, if_neg anEntry]
  rfl

end steps

/-- Settles O41: one lemma above for each step of R117. -/
theorem triggerGroupTakesItsStepsInOrder : Obligations.TriggerGroupTakesItsStepsInOrder := by
  intro s tag b rest takes
  refine ⟨fun above => ?_, fun g e named stored => ?_⟩
  · apply triggerGroup_answers takes
    unfold triggerGroupOwn
    simp only [byteAt, List.getD_cons_zero, groupOf_none above] <;> rfl
  · subst stored
    have field : u8 g.val = [b] := u8_of_toNat named
    have answered {t : State} {status : Status} {results : List Byte}
        (ran : triggerGroup tag g (taken tag rest s) = ⟨taken tag rest t, some ⟨status, results⟩⟩) :
        Answers .triggerGroup s tag rest status results t :=
      triggerGroup_answers takes ((triggerGroupOwn_named (groupOf_some named)).trans ran)
    refine ⟨fun marked => answered ?_, fun unmarked disagrees => answered ?_, fun unmarked agrees =>
      ⟨fun off => answered ?_, fun used => ⟨fun full => answered ?_, fun room => answered ?_⟩⟩⟩
    · rw [triggerGroup_marked (by exact marked), refuseTrigger, groupTimerField, field]
      rfl
    · rw [triggerGroup_disagrees (by exact unmarked) (by exact disagrees), faultGroup_taken, refuseTrigger,
        groupTimerField, field]
      show (⟨_, some ⟨_, _ ++ ([b] ++ timerField _ (faultGroup g s).periodTimers[g]) ++ _⟩⟩ : Execution) = _
      rw [faultGroup_stops, faultGroup_eq]
      rfl
    · rw [triggerGroup_off (by exact unmarked) (by exact agrees) (by exact off), refuseTrigger, groupTimerField,
        field]
      rfl
    · rw [triggerGroup_full (by exact unmarked) (by exact agrees) (by exact used) (by exact full), groupTimerField,
        field]
      rfl
    · rw [triggerGroup_places (by exact unmarked) (by exact agrees) (by exact used) (by exact room), groupTimerField,
        field]
      rfl

end Sys2Proof.Machine
end

section
/-! PROOF. Inbound messages: their judgement (O42), ATTACH (O43), and REQUEST and KEEPALIVE (O44). -/

namespace Sys2Proof.Machine

-- One proof after the other: many at once ask for too many threads.
set_option Elab.async false

variable {s : State}

/-! ## The judgement of a message end (R152, R153) -/

/-- A message end that is judged a failure is counted, with nothing else changed (R153). -/
theorem messageEnd_discards {cause : MessageEndCause} {chars : List Byte} {v : InboundVerdict}
    (running : s.inReset = false) (begun : s.link.receiver = some []) (agree : messageCharsAgree cause chars = true)
    (judged : judgeMessage cause chars = v) (failed : ∀ kind payload, v ≠ .valid kind payload) :
    exec (.messageEnd cause chars) s =
      .next (s.setLink { s.link with receiver := none, counters := s.link.counters.discard v }) := by
  have event : exec (.messageEnd cause chars) s = .next (messageEndEvent cause chars s) :=
    running_released s _ running
  rw [event]
  cases v with
  | valid kind payload => exact absurd rfl (failed kind payload)
  | _ =>
    unfold messageEndEvent
    simp only [begun, List.nil_append, agree, judged, Bool.not_true, Bool.false_eq_true, if_false]

/-- A message end that is judged valid has the effect of its kind (R153, R154). -/
theorem messageEnd_takes {cause : MessageEndCause} {chars : List Byte} {kind : InboundKind} {payload : List Byte}
    (running : s.inReset = false) (begun : s.link.receiver = some []) (agree : messageCharsAgree cause chars = true)
    (judged : judgeMessage cause chars = .valid kind payload) :
    exec (.messageEnd cause chars) s = .next (validMessage kind payload s) := by
  have event : exec (.messageEnd cause chars) s = .next (messageEndEvent cause chars s) :=
    running_released s _ running
  rw [event]
  unfold messageEndEvent
  simp only [begun, List.nil_append, agree, judged, Bool.not_true, Bool.false_eq_true, if_false]

/-- A message is a payload's announced length, its two header characters and its check code (R201). -/
theorem announcedLength_cons (kind length : Byte) (rest : List Byte) :
    announcedLength (kind :: length :: rest) = some (length.toNat + 4) := rfl

theorem messageCharsAgree_complete (kind : Byte) {payload code : List Byte} (fits : payload.length ≤ 240)
    (two : code.length = 2) :
    messageCharsAgree .lastCharacter (kind :: BitVec.ofNat 8 payload.length :: payload ++ code) = true := by
  have length : (BitVec.ofNat 8 payload.length).toNat = payload.length := by
    rw [BitVec.toNat_ofNat]
    omega
  simp only [messageCharsAgree, List.cons_append, announcedLength_cons, length, List.length_cons, List.length_append,
    two, beq_self_eq_true]

theorem judgeMessage_oversize (cause : MessageEndCause) (kind : Byte) {length : Byte} (rest : List Byte)
    (tooLong : 240 < length.toNat) : judgeMessage cause (kind :: length :: rest) = .oversize := if_pos tooLong

/-- A message that a fault or a gap ends within its announced length is a check error (R153). -/
theorem judgeMessage_broken {cause : MessageEndCause} {chars : List Byte} (ended : cause ≠ .lastCharacter)
    (within : ∀ kind length tail, chars = kind :: length :: tail → length.toNat ≤ 240) :
    judgeMessage cause chars = .checkError := by
  unfold judgeMessage
  split
  · next kind length rest =>
    rw [if_neg (by exact Nat.not_lt.mpr (within kind length rest rfl))]
    cases cause with
    | lastCharacter => exact absurd rfl ended
    | _ => rfl
  · rfl

theorem inboundKindOf_unknown {kind : Byte} (noAttach : kind ≠ 1#8) (noRequest : kind ≠ 2#8)
    (noKeepalive : kind ≠ 3#8) : inboundKindOf kind = none := by
  rw [inboundKindOf, if_neg noAttach, if_neg noRequest, if_neg noKeepalive]

theorem judgeMessage_known {kind : Byte} {known : InboundKind} {payload : List Byte} (fits : payload.length ≤ 240)
    (named : inboundKindOf kind = some known) :
    judgeMessage .lastCharacter (inboundChars kind payload) = .valid known payload := by
  have judged := judgeMessage_complete kind payload
    (codeField (crc16 (kind :: BitVec.ofNat 8 payload.length :: payload))) fits
  rw [if_neg (fun differs => differs rfl), named] at judged
  exact judged

theorem judgeMessage_unknown {kind : Byte} {payload : List Byte} (fits : payload.length ≤ 240)
    (unnamed : inboundKindOf kind = none) :
    judgeMessage .lastCharacter (inboundChars kind payload) = .unknownKind := by
  have judged := judgeMessage_complete kind payload
    (codeField (crc16 (kind :: BitVec.ofNat 8 payload.length :: payload))) fits
  rw [if_neg (fun differs => differs rfl), unnamed] at judged
  exact judged

theorem inboundChars_agree (kind : Byte) {payload : List Byte} (fits : payload.length ≤ 240) :
    messageCharsAgree .lastCharacter (inboundChars kind payload) = true :=
  messageCharsAgree_complete kind fits (codeField_length _)

/-- A complete message of a known kind has the effect of its kind (R153, R154). -/
theorem messageEnd_valid {kind : Byte} {known : InboundKind} {payload : List Byte} (running : s.inReset = false)
    (begun : s.link.receiver = some []) (fits : payload.length ≤ 240) (named : inboundKindOf kind = some known) :
    exec (.messageEnd .lastCharacter (inboundChars kind payload)) s = .next (validMessage known payload s) :=
  messageEnd_takes running begun (inboundChars_agree kind fits) (judgeMessage_known fits named)

theorem validMessageEvent_begun {kind : InboundKind} {payload : List Byte} (begun : s.link.receiver = some [])
    (fits : payload.length ≤ 240) : validMessageEvent kind payload s = validMessage kind payload s := by
  unfold validMessageEvent
  rw [if_pos]
  exact ⟨by rw [begun]; rfl, decide_eq_true fits⟩

theorem attach_valid {payload : List Byte} (running : s.inReset = false) (begun : s.link.receiver = some [])
    (fits : payload.length ≤ 240) : exec (.attach payload) s = .next (validMessage .attach payload s) :=
  (running_released s _ running).trans (congrArg _ (validMessageEvent_begun begun fits))

theorem request_valid {payload : List Byte} (running : s.inReset = false) (begun : s.link.receiver = some [])
    (fits : payload.length ≤ 240) : exec (.request payload) s = .next (validMessage .request payload s) :=
  (running_released s _ running).trans (congrArg _ (validMessageEvent_begun begun fits))

theorem keepalive_valid {payload : List Byte} (running : s.inReset = false) (begun : s.link.receiver = some [])
    (fits : payload.length ≤ 240) : exec (.keepalive payload) s = .next (validMessage .keepalive payload s) :=
  (running_released s _ running).trans (congrArg _ (validMessageEvent_begun begun fits))

/-- Settles O42: by the verdict on the characters. -/
theorem inboundMessagesAreJudgedAtTheirEnd : Obligations.InboundMessagesAreJudgedAtTheirEnd := by
  intro s counted running means
  have begins : exec .trunkMessageBegin s = .next (trunkMessageBeginEvent s) := running_released s _ running
  refine ⟨fun hunting => ?_, fun begun => ?_, fun begun => ⟨fun cause chars agree => ⟨?_, fun ended within => ?_⟩,
    fun kind payload fits => ⟨fun code two differs => ?_, fun noAttach noRequest noKeepalive => ?_, ?_, ?_, ?_⟩⟩⟩
  · rw [begins, trunkMessageBeginEvent]
    simp only [hunting]
  · rw [begins, trunkMessageBeginEvent]
    simp only [begun]
  · intro kind length tail written tooLong
    have judged : judgeMessage cause chars = .oversize := by
      rw [written]
      exact judgeMessage_oversize cause kind tail tooLong
    rw [messageEnd_discards running begun agree judged nofun, means]
    rfl
  · rw [messageEnd_discards running begun agree (judgeMessage_broken ended within) nofun, means]
    rfl
  · have judged := judgeMessage_complete kind payload code fits
    rw [if_pos differs] at judged
    rw [messageEnd_discards running begun (messageCharsAgree_complete kind fits two) judged nofun, means]
    rfl
  · have unnamed := inboundKindOf_unknown noAttach noRequest noKeepalive
    rw [messageEnd_discards running begun (inboundChars_agree kind fits) (judgeMessage_unknown fits unnamed) nofun,
      means]
    rfl
  · rw [messageEnd_valid running begun fits rfl, attach_valid running begun fits]
  · rw [messageEnd_valid running begun fits rfl, request_valid running begun fits]
  · rw [messageEnd_valid running begun fits rfl, keepalive_valid running begun fits]

/-! ## ATTACH (R156, R157) -/

/-- Settles O43: the opening on an OFFLINE link, and elsewhere the same opening on the torn down state. -/
theorem attachOpensASessionAfterTeardown : Obligations.AttachOpensASessionAfterTeardown := by
  intro s payload running begun fits
  refine ⟨fun offline => ?_, fun opened => ?_, fun m => ?_⟩
  · have closed : (receiverHunt s).link.state = .offline := offline
    rw [attach_valid running begun fits, validMessage, attachMessage, if_pos closed]
    rfl
  · have stands : (receiverHunt s).link.state ≠ .offline := opened
    have torn : (receiverHunt (teardown s)).link.state = .offline := rfl
    rw [attach_valid running begun fits, attach_valid (s := teardown s) running begun fits, validMessage,
      validMessage, attachMessage, attachMessage, if_neg stands, if_pos torn]
    rfl
  · simp only [Message.payload, TrunkParams.field, List.append_assoc]
    rfl

/-! ## REQUEST and KEEPALIVE (R154, R155) -/

/-- Settles O44: by the link state. -/
theorem requestAndKeepaliveActByLinkState : Obligations.RequestAndKeepaliveActByLinkState := by
  intro s payload running begun fits
  rw [keepalive_valid running begun fits, request_valid running begun fits]
  refine ⟨fun offline => ?_, fun opened heard hears out offers => ?_⟩
  · have closed : (receiverHunt s).link.state = .offline := offline
    simp only [validMessage, keepaliveMessage, requestMessage, closed, offline]
    exact ⟨by rw [← offline]; rfl, by rw [← offline]; rfl⟩
  · have kept : keepaliveMessage (receiverHunt s) = { s with link := heard, out := out } ∧
        requestMessage payload (receiverHunt s) = offerRequest payload { s with link := heard, out := out } := by
      have here : (receiverHunt s).link.state = s.link.state := rfl
      unfold keepaliveMessage requestMessage
      rw [here]
      subst hears offers
      cases state : s.link.state with
      | offline => exact absurd state opened
      | active =>
        dsimp only
        rw [if_pos rfl, if_pos rfl, ← state]
        exact ⟨rfl, rfl⟩
      | dormant => exact ⟨rfl, rfl⟩
      | waking => exact ⟨rfl, rfl⟩
    obtain ⟨keeps, requests⟩ := kept
    have waiting : heard.inbound = s.link.inbound := by rw [hears]
    have counts : heard.counters = s.link.counters := by rw [hears]
    refine ⟨congrArg _ keeps, fun room => ?_, fun full => ?_⟩
    · rw [validMessage, requests, offerRequest, if_pos (by rw [waiting]; exact room), waiting]
      rfl
    · rw [validMessage, requests, offerRequest, if_neg (by rw [waiting]; exact Nat.not_lt.mpr full), counts]
      rfl

end Sys2Proof.Machine
end

section
/-! PROOF. The trunk requests: SET_TRUNK, ENTER_DORMANT and RESTART (O47), and READ_DEVICE (O48). -/

namespace Sys2Proof.Machine

-- One proof after the other: many at once ask for too many threads.
set_option Elab.async false

variable {s : State} {tag : Tag} {rest : List (List Byte)}

/-! ## SET_TRUNK (R162) -/

/-- The five checks of R162 in their order; every byte is a silence timeout. -/
theorem trunkChecks_refusal (b : List Byte) : firstFailure (trunkChecks b) =
    if numAt b 1 = 0 ∨ 60 < numAt b 1 then some 2
    else if numAt b 2 = 0 ∨ 15 < numAt b 2 then some 3
    else if wordAt b 3 = 0 ∨ 600 < wordAt b 3 then some 4
    else if 7 < numAt b 5 then some 5 else none := by
  have silence : numAt b 0 ≤ 255 := Nat.le_of_lt_succ (byteAt b 0).isLt
  rw [trunkChecks, firstFailure_cons, if_pos (decide_eq_true silence)]
  refine firstFailure_check ?_ <| firstFailure_check ?_ <| firstFailure_check ?_ <|
    firstFailure_check ?_ firstFailure_nil
  all_goals
    simp only [Bool.and_eq_true, decide_eq_true_eq]
    omega

theorem setTrunk_answers {t : State} {status : Status} {results : List Byte} {b0 b1 b2 b3 b4 b5 : Byte}
    (takes : Takes s tag 21#8 [b0, b1, b2, b3, b4, b5] rest)
    (ran : setTrunkOwn tag [b0, b1, b2, b3, b4, b5] (taken tag rest s) =
      ⟨taken tag rest t, some ⟨status, results⟩⟩) :
    Answers .setTrunk s tag rest status results t := take_answers (o := .setTrunk) takes rfl (.inl rfl) ran

theorem setTrunkOwn_refuses {o : List Byte} {field : Nat} (fails : firstFailure (trunkChecks o) = some field) :
    setTrunkOwn tag o s = badValue field s := by
  simp only [setTrunkOwn, readTrunkParams, fails]

theorem setTrunkOwn_writes {o : List Byte} (passes : firstFailure (trunkChecks o) = none) :
    setTrunkOwn tag o s =
      answerOk (TrunkParams.field ⟨numAt o 0, numAt o 1, numAt o 2, wordAt o 3, numAt o 5⟩)
        (restartSilence (s.setLink
          { s.link with params := ⟨numAt o 0, numAt o 1, numAt o 2, wordAt o 3, numAt o 5⟩ })) := by
  simp only [setTrunkOwn, readTrunkParams, passes]

/-- The five values are answered in the bytes that carried them. -/
theorem trunkParams_field_bytes (b0 b1 b2 b3 b4 b5 : Byte) :
    TrunkParams.field ⟨b0.toNat, b1.toNat, b2.toNat, b3.toNat * 256 + b4.toNat, b5.toNat⟩ =
      [b0, b1, b2, b3, b4, b5] := by
  have high : BitVec.ofNat 8 ((b3.toNat * 256 + b4.toNat) / 256) = b3 := by
    rw [show (b3.toNat * 256 + b4.toNat) / 256 = b3.toNat by omega, BitVec.ofNat_toNat, BitVec.setWidth_eq]
  have low : BitVec.ofNat 8 (b3.toNat * 256 + b4.toNat) = b4 := by
    refine BitVec.eq_of_toNat_eq ?_
    rw [BitVec.toNat_ofNat]
    omega
  simp only [TrunkParams.field, u8, u16, high, low, BitVec.ofNat_toNat, BitVec.setWidth_eq]
  rfl

/-! ## ENTER_DORMANT and RESTART (R163, R195) -/

theorem enterDormantOwn_grants (noRecord : s.stack = []) (noAlert : s.out.alertQ = []) (o : List Byte) :
    enterDormantOwn tag o s = answerOk [] s := by
  unfold enterDormantOwn
  rw [noRecord, noAlert]
  rfl

theorem enterDormantOwn_refuses (outstanding : s.stack ≠ [] ∨ s.out.alertQ ≠ []) (o : List Byte) :
    enterDormantOwn tag o s =
      refuse .alertsOutstanding (u8 s.stack.length ++ u8 s.out.alertQ.length) s := by
  unfold enterDormantOwn
  rw [if_neg]
  rw [Bool.and_eq_true, List.isEmpty_iff, List.isEmpty_iff]
  rintro ⟨noRecord, noAlert⟩
  exact outstanding.elim (absurd noRecord) (absurd noAlert)

/-- Settles O47: the checks of R162 in their order, and the two tests of R163. -/
theorem trunkRequestsAreCheckedAndAnswered : Obligations.TrunkRequestsAreCheckedAndAnswered := by
  refine ⟨fun s tag b0 b1 b2 b3 b4 b5 rest takes ack word refused means => ?_, fun s tag rest =>
    ⟨fun takes => ⟨fun noRecord noAlert => ?_, fun outstanding => ?_⟩, fun takes => ?_⟩⟩
  · have verdict : refused = (firstFailure (trunkChecks [b0, b1, b2, b3, b4, b5])).map (BitVec.ofNat 8) := by
      have number : wordAt [b0, b1, b2, b3, b4, b5] 3 = ack := word.symm
      rw [means, trunkChecks_refusal, number]
      simp only [apply_ite (Option.map (BitVec.ofNat 8)), Option.map_some, Option.map_none]
      rfl
    refine ⟨fun field refuses => ?_, fun passes => ?_⟩
    · rw [verdict, Option.map_eq_some_iff] at refuses
      obtain ⟨number, fails, rfl⟩ := refuses
      exact setTrunk_answers takes (setTrunkOwn_refuses fails)
    · rw [verdict, Option.map_eq_none_iff] at passes
      refine setTrunk_answers takes ((setTrunkOwn_writes passes).trans ?_)
      have bytes := trunkParams_field_bytes b0 b1 b2 b3 b4 b5
      subst word
      show answerOk (TrunkParams.field ⟨b0.toNat, b1.toNat, b2.toNat, b3.toNat * 256 + b4.toNat, b5.toNat⟩) _ = _
      rw [bytes]
      rfl
  · exact take_answers (o := .enterDormant) takes rfl (.inl rfl)
      (enterDormantOwn_grants (tag := tag) (s := taken tag rest s) noRecord noAlert [])
  · exact take_answers (o := .enterDormant) takes rfl (.inl rfl)
      (enterDormantOwn_refuses (tag := tag) (s := taken tag rest s) outstanding [])
  · exact take_answers (o := .restart) takes rfl (.inl rfl) rfl

/-! ## READ_DEVICE (R193) -/

/-- A cache entry is listed as IN_PROGRESS while it holds no reply (R193). -/
theorem cacheEntry_field : CacheEntry.field = fun e => [e.tag, e.op, if e.reply = none then 0#8 else 1#8] := by
  funext e
  obtain ⟨number, op, reply⟩ := e
  cases reply <;> rfl

theorem routing_field : slotOrNone = fun route => match route with | none => [255#8] | some k => u8 k.val := by
  funext route
  cases route <;> rfl

/-- While no message is sent its class is absent (R193). -/
theorem sending_field (sending : Option Message) (others : List Byte) :
    u8 (if sending.isSome then 1 else 0) ++ (optional 1 (sending.map fun m => u8 m.trunkClass.code) ++ others) =
      (match sending with | none => [0#8, 0#8, 0#8] | some m => [1#8, 1#8] ++ u8 m.trunkClass.code) ++ others := by
  cases sending <;> rfl

/-- Settles O48: group by group of R193. -/
theorem readDeviceShowsEveryGroup : Obligations.ReadDeviceShowsEveryGroup := by
  intro s tag rest takes t p c tracker params counters
  subst tracker params counters
  refine take_answers (o := .readDevice) takes rfl (.inl rfl) ?_
  show answerOk (readDeviceResults (taken tag rest s)) _ = _
  simp only [readDeviceResults, deviceMapField, deviceLinkField, TrunkParams.field, InboundCounters.field,
    deviceQueuesField, deviceCountersField, answerOk, List.append_assoc, sending_field, cacheEntry_field, routing_field]
  rfl

end Sys2Proof.Machine
end

section
/-! PROOF. Requests that are not executed: those the reply cache answers (O51) and the malformed ones (O52). -/

namespace Sys2Proof.Machine

-- One proof after the other: many at once ask for too many threads.
set_option Elab.async false

variable {s : State} {tag op : Byte} {operands : List Byte} {rest : List (List Byte)}

/-! ## The take of the oldest request (R187, R189) -/

theorem takeEvent_occurs {names : Byte → Bool} (run : Tag → List Byte → State → Execution)
    (oldest : s.link.inbound = (tag :: op :: operands) :: rest) (named : names op = true) (room : 0 < s.replyFree) :
    takeEvent names run s = disposeRequest run tag op operands (setInbound rest s) := by
  unfold takeEvent
  simp only [oldest]
  rw [if_pos ⟨named, room⟩]

/-- With no free Reply queue entry no request is taken (R187). -/
theorem takeEvent_waits (names : Byte → Bool) (run : Tag → List Byte → State → Execution) (full : s.replyFree = 0) :
    takeEvent names run s = s := by
  unfold takeEvent
  split
  · rw [if_neg]
    rw [full]
    exact fun occurs => Nat.lt_irrefl 0 occurs.2
  · rfl

/-! ## The reply cache (R188, R189) -/

/-- The first entry of a request's tag, if it has the request's operation code, answers the request. -/
theorem cacheHit_first {cache before after : List CacheEntry} {e : CacheEntry} (split : cache = before ++ e :: after)
    (sameTag : e.tag = tag) (sameOp : e.op = op) (first : ∀ x ∈ before, x.tag ≠ tag) :
    cacheHit cache tag op = some e := by
  rw [cacheHit, List.find?_eq_some_iff_append]
  refine ⟨by simp [sameTag, sameOp], before, after, split, fun x earlier => ?_⟩
  simp [first x earlier]

/-- A request that the cache answers is not executed: its reply is placed again (R189). -/
theorem disposeRequest_done (run : Tag → List Byte → State → Execution) {e : CacheEntry} {r : Reply}
    (hit : cacheHit s.mgmt.cache tag op = some e) (done : e.reply = some r) :
    disposeRequest run tag op operands s = placeReply (.reply r) s := by
  simp only [disposeRequest, hit, done]

/-- The copy of a request in progress is discarded (R189). -/
theorem disposeRequest_inProgress (run : Tag → List Byte → State → Execution) {e : CacheEntry}
    (hit : cacheHit s.mgmt.cache tag op = some e) (inProgress : e.reply = none) :
    disposeRequest run tag op operands s = s := by
  simp only [disposeRequest, hit, inProgress]

theorem disposeRequest_runs (run : Tag → List Byte → State → Execution)
    (fresh : cacheHit s.mgmt.cache tag op = none) :
    disposeRequest run tag op operands s =
      closeTake tag op (run tag operands (setCache (cacheRoom s.mgmt.cache tag) s)) := by
  simp only [disposeRequest, fresh]

theorem cacheRoom_replaces {cache : List CacheEntry} (stands : ∃ e ∈ cache, e.tag = tag) :
    cacheRoom cache tag = cache.filter fun e => e.tag != tag := by
  obtain ⟨e, member, same⟩ := stands
  rw [cacheRoom, if_pos]
  exact List.any_eq_true.mpr ⟨e, member, beq_iff_eq.mpr same⟩

theorem cacheRoom_absent {cache : List CacheEntry} (absent : ∀ e ∈ cache, e.tag ≠ tag) :
    cacheRoom cache tag = if cache.length < 8 then cache else cache.tail := by
  rw [cacheRoom, if_neg]
  · rfl
  · rw [List.any_eq_true]
    rintro ⟨e, member, same⟩
    exact absent e member (beq_iff_eq.mp same)

/-- Settles O51: by the entry that the cache holds. -/
theorem cachedRequestsAreNotExecuted : Obligations.CachedRequestsAreNotExecuted := by
  refine ⟨fun o s tag operands rest running oldest => ?_, fun cache tag =>
    ⟨cacheRoom_replaces, fun absent => ⟨fun few => ?_, fun oldest others split many => ?_⟩⟩⟩
  · have event : exec o.command s =
        .next (takeEvent (fun op => op == o.code) (executeTested o o.own) s) := by
      rw [exec_command]
      exact running_released s _ running
    rw [event]
    refine ⟨fun full => ?_, fun room before e after split sameTag sameOp first => ?_⟩
    · rw [takeEvent_waits _ _ full]
    · have hit : cacheHit (setInbound rest s).mgmt.cache tag o.code = some e :=
        cacheHit_first split sameTag sameOp first
      have occurs := takeEvent_occurs (names := fun op => op == o.code) (executeTested o o.own) oldest
        (beq_self_eq_true _) room
      rw [occurs]
      refine ⟨fun r done => ?_, fun inProgress => ?_⟩
      · rw [disposeRequest_done _ hit done]
        rfl
      · rw [disposeRequest_inProgress _ hit inProgress]
        rfl
  · rw [cacheRoom_absent absent, if_pos few]
  · rw [cacheRoom_absent absent, if_neg (Nat.not_lt.mpr many), split, List.tail_cons]

/-! ## Malformed requests (R185, R186, R192) -/

theorem namesNoOperation_of {op : Byte} (none : op.toNat = 0 ∨ 25 ≤ op.toNat) : namesNoOperation op = true := by
  rw [namesNoOperation, Bool.or_eq_true, beq_iff_eq, decide_eq_true_eq]
  exact none

theorem badOp_refuses (takes : Takes s tag op operands rest) (none : op.toNat = 0 ∨ 25 ≤ op.toNat) :
    exec .badOp s = .next (replied rest ⟨tag, op, .badOp, []⟩ s) := by
  have event : exec .badOp s =
      .next (takeEvent namesNoOperation (fun _ _ s => refuse .badOp [] s) s) :=
    running_released s _ takes.released
  rw [event, takeEvent_occurs _ takes.oldest (namesNoOperation_of none) takes.room,
    disposeRequest_runs (s := setInbound rest s) _ takes.fresh]
  rfl

theorem operandsFit_false {o : Operation} (wrong : operands.length ≠ o.operandCount operands) :
    operandsFit o operands = false := by
  cases o with
  | relay => exact Bool.and_eq_false_iff.mpr (.inr (beq_eq_false_iff_ne.mpr wrong))
  | _ => exact beq_eq_false_iff_ne.mpr wrong

/-- Test 2 of R192 refuses ahead of every other (R192). -/
theorem executeTested_wrongLength {o : Operation} (own : Tag → List Byte → State → Execution)
    (wrong : operandsFit o operands = false) : executeTested o own tag operands s = badValue 0 s := by
  unfold executeTested
  rw [wrong]
  rfl

/-- Settles O52: BAD_OP and the length by the tests of R192, a short request by its take. -/
theorem malformedRequestsAreRefusedOrCounted : Obligations.MalformedRequestsAreRefusedOrCounted := by
  refine ⟨⟨fun s tag op operands rest => badOp_refuses, fun o s tag operands rest takes wrong => ?_⟩,
    fun s payload rest running oldest short room => ?_⟩
  · unfold Answers
    rw [take_executes takes, executeTested_wrongLength o.own (operandsFit_false wrong)]
    rfl
  · have event : exec .shortRequest s = .next (shortRequestEvent s) := running_released s _ running
    rw [event]
    unfold shortRequestEvent
    simp only [oldest]
    rw [if_pos ⟨short, room⟩]
    rfl

end Sys2Proof.Machine
end
